-- ==== Sys2Proof/Word.lean ====
section
/-! DEFINITION. The two word types of the machine: the byte that memory and the 8-bit registers
hold (R7), and the 16-bit word of addresses, SP and pc. -/
namespace Sys2Proof

/-- A byte: one memory cell, one 8-bit register, one opcode byte (R7). -/
abbrev Byte := BitVec 8

/-- A 16-bit word: an address, a register pair, SP or pc (R7). -/
abbrev Word := BitVec 16

end Sys2Proof
end

