-- ==== Sys2Proof/Machine/Bits.lean ====
section
/-! DEFINITION. Bit fields, sign extension and byte order, each once (R9). -/
namespace Sys2Proof

/-- `hi ++ lo` of two bytes (R9): `hi * 256 + lo`. -/
def wordOf (hi lo : Byte) : Word := hi ++ lo

/-- `v[15:8]` (R9). -/
def hiByte (w : Word) : Byte := w.extractLsb' 8 8

/-- `v[7:0]` (R9). -/
def loByte (w : Word) : Byte := w.extractLsb' 0 8

/-- `sext_16` of a byte (R9): `e - 256` when bit 7 is 1, else `e`, mod 65536. -/
def sext16 (e : Byte) : Word := e.signExtend 16

/-- The high page: `0xFF00 + zext_16(x)` (R322). -/
def highPage (x : Byte) : Word := 0xFF00#16 + x.zeroExtend 16

/-- The low four bits of a byte, as a number: `a & 0x0F`. -/
def lowNibble (a : Byte) : Nat := (a &&& 0x0F#8).toNat

end Sys2Proof
end

