-- ==== Sys2Proof/Config.lean ====
section
/-! DEFINITION. What is fixed for one machine (the parameters of R8), and the free values: the draws
of PERIPHERAL_ORACLE and of memory nothing has written (R8, R434). A free value is an opaque constant
applied to plain data, so no proof can know what it is. -/
namespace Sys2Proof

/-- The interrupt sources of the default `INTERRUPT_TABLE` (R8, R1231), in priority order (R1220). -/
inductive IntSource where
  | vblank
  | lcdStat
  | timer
  | serial
  | joypad
  deriving DecidableEq, Repr

/-- `IDLE_VALUE`, what a locked or empty region reads as (R8, D7). -/
def Config.idleValue : Byte := 0xFF

/-- `DMA_WINDOW`: the M-cycles for which the bus is refused outside HRAM after a write to 0xFF46
(R8, R228, D34). -/
def Config.dmaWindow : Nat := 161

/-- The byte of one draw: an unwritten RAM byte, an I/O read, a read of 0xFEA0 to 0xFEFF
(R223 to R227). Free value of log entry 1. -/
opaque Config.drawByte : Nat → Byte

/-- The Video collaborator's `locked` draw of one VRAM or OAM access (R225). Free value of log
entry 2. -/
opaque Config.drawLocked : Nat → Bool

/-- The ROM byte at an address `load_program` did not place: a draw, fixed for the run (R220, U4).
Free value of log entry 3. -/
opaque Config.romByte : Word → Byte

/-- The answer of `pending_interrupt()` in a tick, the first tick included: `None` or a source of
`INTERRUPT_TABLE` (R435, R1210, R1231). Free value of log entry 4. -/
opaque Config.pendingAnswer : Nat → Option IntSource

/-- `halted` after a DecodeFailure, in the given tick, of a step that wakes the core: R132 and R421 clear
it, R1201 leaves it as the previous step left it, and no ruling says which holds. Free value of log
entry 23. -/
opaque Config.haltedAtFailure : Nat → Bool

end Sys2Proof
end

