-- ==== Sys2Proof/Syntax.lean ====
section
/-! DEFINITION. The instructions: one constructor per row of spec/opcode_table.json (R360, R361), with
the operand the encoding carries in the stream, and the names operands are made of (R303 to R307,
R320). -/
namespace Sys2Proof

/-- The 8-bit registers an `r8` field names (R303). -/
inductive Reg8 where
  | b | c | d | e | h | l | a
  deriving DecidableEq, Repr

/-- The 16-bit registers: the four pairs and SP (R102, R104). -/
inductive Reg16 where
  | af | bc | de | hl | sp
  deriving DecidableEq, Repr

/-- The pairs an Indirect-via-register descriptor names (R320). -/
inductive IndReg where
  | bc | de | hl
  deriving DecidableEq, Repr

/-- The field `rr` of the 16-bit loads and arithmetic (R304). -/
inductive RP where
  | bc | de | hl | sp
  deriving DecidableEq, Repr

/-- The field `rr2` of PUSH and POP (R304). -/
inductive RP2 where
  | bc | de | hl | af
  deriving DecidableEq, Repr

/-- The condition codes (R305). -/
inductive Cond where
  | nz | z | nc | c
  deriving DecidableEq, Repr

/-- The eight ALU operations of field y (R306). -/
inductive AluOp where
  | add | adc | sub | sbc | and | xor | or | cp
  deriving DecidableEq, Repr

/-- The eight rotates and shifts of field y (R307). -/
inductive RotOp where
  | rlc | rrc | rl | rr | sla | sra | swap | srl
  deriving DecidableEq, Repr

/-- The 16-bit register an `rr` field names. -/
def RP.reg16 : RP → Reg16
  | .bc => .bc
  | .de => .de
  | .hl => .hl
  | .sp => .sp

/-- The 16-bit register an `rr2` field names. -/
def RP2.reg16 : RP2 → Reg16
  | .bc => .bc
  | .de => .de
  | .hl => .hl
  | .af => .af

/-- The instructions: those with an operand in the stream, then the rest, each group in the order of the
opcode table. `n` is an immediate or an address of the
stream, `e` a signed byte, used as the table's row says (R310). `unassigned` stands for the 11 rows
with no instruction (R340), `prefixCB` for the prefix row, whose operand is the extended opcode
(R1101); see WellFormed. -/
inductive Instr where
  | ldBCN16 (n : Word) -- 0x01 LD BC,n16, R600
  | ldBN8 (n : Byte) -- 0x06 LD B,n8, R501
  | ldMemA16SP (n : Word) -- 0x08 LD (a16),SP, R601
  | ldCN8 (n : Byte) -- 0x0E LD C,n8, R501
  | ldDEN16 (n : Word) -- 0x11 LD DE,n16, R600
  | ldDN8 (n : Byte) -- 0x16 LD D,n8, R501
  | jrE8 (e : Byte) -- 0x18 JR e8, R1013
  | ldEN8 (n : Byte) -- 0x1E LD E,n8, R501
  | jrNZE8 (e : Byte) -- 0x20 JR NZ,e8, R1014
  | ldHLN16 (n : Word) -- 0x21 LD HL,n16, R600
  | ldHN8 (n : Byte) -- 0x26 LD H,n8, R501
  | jrZE8 (e : Byte) -- 0x28 JR Z,e8, R1014
  | ldLN8 (n : Byte) -- 0x2E LD L,n8, R501
  | jrNCE8 (e : Byte) -- 0x30 JR NC,e8, R1014
  | ldSPN16 (n : Word) -- 0x31 LD SP,n16, R600
  | ldMemHLN8 (n : Byte) -- 0x36 LD (HL),n8, R504
  | jrCE8 (e : Byte) -- 0x38 JR C,e8, R1014
  | ldAN8 (n : Byte) -- 0x3E LD A,n8, R501
  | jpNZA16 (n : Word) -- 0xC2 JP NZ,a16, R1011
  | jpA16 (n : Word) -- 0xC3 JP a16, R1010
  | callNZA16 (n : Word) -- 0xC4 CALL NZ,a16, R1021
  | addAN8 (n : Byte) -- 0xC6 ADD A,n8, R712
  | jpZA16 (n : Word) -- 0xCA JP Z,a16, R1011
  | prefixCB (op2 : Byte) -- 0xCB PREFIX CB, R1101
  | callZA16 (n : Word) -- 0xCC CALL Z,a16, R1021
  | callA16 (n : Word) -- 0xCD CALL a16, R1020
  | adcAN8 (n : Byte) -- 0xCE ADC A,n8, R715
  | jpNCA16 (n : Word) -- 0xD2 JP NC,a16, R1011
  | unassigned (opcode : Byte) -- 0xD3 DB DD E3 E4 EB EC ED F4 FC FD (unassigned), R1201
  | callNCA16 (n : Word) -- 0xD4 CALL NC,a16, R1021
  | subN8 (n : Byte) -- 0xD6 SUB n8, R718
  | jpCA16 (n : Word) -- 0xDA JP C,a16, R1011
  | callCA16 (n : Word) -- 0xDC CALL C,a16, R1021
  | sbcAN8 (n : Byte) -- 0xDE SBC A,n8, R721
  | ldhMemA8A (n : Byte) -- 0xE0 LDH (a8),A, R511
  | andN8 (n : Byte) -- 0xE6 AND n8, R724
  | addSPE8 (e : Byte) -- 0xE8 ADD SP,e8, R804
  | ldMemA16A (n : Word) -- 0xEA LD (a16),A, R515
  | xorN8 (n : Byte) -- 0xEE XOR n8, R727
  | ldhAMemA8 (n : Byte) -- 0xF0 LDH A,(a8), R512
  | orN8 (n : Byte) -- 0xF6 OR n8, R730
  | ldHLSPE8 (e : Byte) -- 0xF8 LD HL,SP+e8, R602
  | ldAMemA16 (n : Word) -- 0xFA LD A,(a16), R516
  | cpN8 (n : Byte) -- 0xFE CP n8, R733
  | nop -- 0x00 NOP, R1100
  | ldMemBCA -- 0x02 LD (BC),A, R506
  | incBC -- 0x03 INC BC, R802
  | incB -- 0x04 INC B, R734
  | decB -- 0x05 DEC B, R736
  | rlca -- 0x07 RLCA, R900
  | addHLBC -- 0x09 ADD HL,BC, R801
  | ldAMemBC -- 0x0A LD A,(BC), R505
  | decBC -- 0x0B DEC BC, R803
  | incC -- 0x0C INC C, R734
  | decC -- 0x0D DEC C, R736
  | rrca -- 0x0F RRCA, R901
  | stop -- 0x10 STOP, R1103
  | ldMemDEA -- 0x12 LD (DE),A, R506
  | incDE -- 0x13 INC DE, R802
  | incD -- 0x14 INC D, R734
  | decD -- 0x15 DEC D, R736
  | rla -- 0x17 RLA, R902
  | addHLDE -- 0x19 ADD HL,DE, R801
  | ldAMemDE -- 0x1A LD A,(DE), R505
  | decDE -- 0x1B DEC DE, R803
  | incE -- 0x1C INC E, R734
  | decE -- 0x1D DEC E, R736
  | rra -- 0x1F RRA, R903
  | ldMemHLIncA -- 0x22 LD (HL+),A, R509
  | incHL -- 0x23 INC HL, R802
  | incH -- 0x24 INC H, R734
  | decH -- 0x25 DEC H, R736
  | daa -- 0x27 DAA, R740
  | addHLHL -- 0x29 ADD HL,HL, R801
  | ldAMemHLInc -- 0x2A LD A,(HL+), R507
  | decHL -- 0x2B DEC HL, R803
  | incL -- 0x2C INC L, R734
  | decL -- 0x2D DEC L, R736
  | cpl -- 0x2F CPL, R741
  | ldMemHLDecA -- 0x32 LD (HL-),A, R510
  | incSP -- 0x33 INC SP, R802
  | incMemHL -- 0x34 INC (HL), R735
  | decMemHL -- 0x35 DEC (HL), R737
  | scf -- 0x37 SCF, R742
  | addHLSP -- 0x39 ADD HL,SP, R801
  | ldAMemHLDec -- 0x3A LD A,(HL-), R508
  | decSP -- 0x3B DEC SP, R803
  | incA -- 0x3C INC A, R734
  | decA -- 0x3D DEC A, R736
  | ccf -- 0x3F CCF, R743
  | ldBB -- 0x40 LD B,B, R500
  | ldBC -- 0x41 LD B,C, R500
  | ldBD -- 0x42 LD B,D, R500
  | ldBE -- 0x43 LD B,E, R500
  | ldBH -- 0x44 LD B,H, R500
  | ldBL -- 0x45 LD B,L, R500
  | ldBMemHL -- 0x46 LD B,(HL), R502
  | ldBA -- 0x47 LD B,A, R500
  | ldCB -- 0x48 LD C,B, R500
  | ldCC -- 0x49 LD C,C, R500
  | ldCD -- 0x4A LD C,D, R500
  | ldCE -- 0x4B LD C,E, R500
  | ldCH -- 0x4C LD C,H, R500
  | ldCL -- 0x4D LD C,L, R500
  | ldCMemHL -- 0x4E LD C,(HL), R502
  | ldCA -- 0x4F LD C,A, R500
  | ldDB -- 0x50 LD D,B, R500
  | ldDC -- 0x51 LD D,C, R500
  | ldDD -- 0x52 LD D,D, R500
  | ldDE -- 0x53 LD D,E, R500
  | ldDH -- 0x54 LD D,H, R500
  | ldDL -- 0x55 LD D,L, R500
  | ldDMemHL -- 0x56 LD D,(HL), R502
  | ldDA -- 0x57 LD D,A, R500
  | ldEB -- 0x58 LD E,B, R500
  | ldEC -- 0x59 LD E,C, R500
  | ldED -- 0x5A LD E,D, R500
  | ldEE -- 0x5B LD E,E, R500
  | ldEH -- 0x5C LD E,H, R500
  | ldEL -- 0x5D LD E,L, R500
  | ldEMemHL -- 0x5E LD E,(HL), R502
  | ldEA -- 0x5F LD E,A, R500
  | ldHB -- 0x60 LD H,B, R500
  | ldHC -- 0x61 LD H,C, R500
  | ldHD -- 0x62 LD H,D, R500
  | ldHE -- 0x63 LD H,E, R500
  | ldHH -- 0x64 LD H,H, R500
  | ldHL -- 0x65 LD H,L, R500
  | ldHMemHL -- 0x66 LD H,(HL), R502
  | ldHA -- 0x67 LD H,A, R500
  | ldLB -- 0x68 LD L,B, R500
  | ldLC -- 0x69 LD L,C, R500
  | ldLD -- 0x6A LD L,D, R500
  | ldLE -- 0x6B LD L,E, R500
  | ldLH -- 0x6C LD L,H, R500
  | ldLL -- 0x6D LD L,L, R500
  | ldLMemHL -- 0x6E LD L,(HL), R502
  | ldLA -- 0x6F LD L,A, R500
  | ldMemHLB -- 0x70 LD (HL),B, R503
  | ldMemHLC -- 0x71 LD (HL),C, R503
  | ldMemHLD -- 0x72 LD (HL),D, R503
  | ldMemHLE -- 0x73 LD (HL),E, R503
  | ldMemHLH -- 0x74 LD (HL),H, R503
  | ldMemHLL -- 0x75 LD (HL),L, R503
  | halt -- 0x76 HALT, R1102
  | ldMemHLA -- 0x77 LD (HL),A, R503
  | ldAB -- 0x78 LD A,B, R500
  | ldAC -- 0x79 LD A,C, R500
  | ldAD -- 0x7A LD A,D, R500
  | ldAE -- 0x7B LD A,E, R500
  | ldAH -- 0x7C LD A,H, R500
  | ldAL -- 0x7D LD A,L, R500
  | ldAMemHL -- 0x7E LD A,(HL), R502
  | ldAA -- 0x7F LD A,A, R500
  | addAB -- 0x80 ADD A,B, R710
  | addAC -- 0x81 ADD A,C, R710
  | addAD -- 0x82 ADD A,D, R710
  | addAE -- 0x83 ADD A,E, R710
  | addAH -- 0x84 ADD A,H, R710
  | addAL -- 0x85 ADD A,L, R710
  | addAMemHL -- 0x86 ADD A,(HL), R711
  | addAA -- 0x87 ADD A,A, R710
  | adcAB -- 0x88 ADC A,B, R713
  | adcAC -- 0x89 ADC A,C, R713
  | adcAD -- 0x8A ADC A,D, R713
  | adcAE -- 0x8B ADC A,E, R713
  | adcAH -- 0x8C ADC A,H, R713
  | adcAL -- 0x8D ADC A,L, R713
  | adcAMemHL -- 0x8E ADC A,(HL), R714
  | adcAA -- 0x8F ADC A,A, R713
  | subB -- 0x90 SUB B, R716
  | subC -- 0x91 SUB C, R716
  | subD -- 0x92 SUB D, R716
  | subE -- 0x93 SUB E, R716
  | subH -- 0x94 SUB H, R716
  | subL -- 0x95 SUB L, R716
  | subMemHL -- 0x96 SUB (HL), R717
  | subA -- 0x97 SUB A, R716
  | sbcAB -- 0x98 SBC A,B, R719
  | sbcAC -- 0x99 SBC A,C, R719
  | sbcAD -- 0x9A SBC A,D, R719
  | sbcAE -- 0x9B SBC A,E, R719
  | sbcAH -- 0x9C SBC A,H, R719
  | sbcAL -- 0x9D SBC A,L, R719
  | sbcAMemHL -- 0x9E SBC A,(HL), R720
  | sbcAA -- 0x9F SBC A,A, R719
  | andB -- 0xA0 AND B, R722
  | andC -- 0xA1 AND C, R722
  | andD -- 0xA2 AND D, R722
  | andE -- 0xA3 AND E, R722
  | andH -- 0xA4 AND H, R722
  | andL -- 0xA5 AND L, R722
  | andMemHL -- 0xA6 AND (HL), R723
  | andA -- 0xA7 AND A, R722
  | xorB -- 0xA8 XOR B, R725
  | xorC -- 0xA9 XOR C, R725
  | xorD -- 0xAA XOR D, R725
  | xorE -- 0xAB XOR E, R725
  | xorH -- 0xAC XOR H, R725
  | xorL -- 0xAD XOR L, R725
  | xorMemHL -- 0xAE XOR (HL), R726
  | xorA -- 0xAF XOR A, R725
  | orB -- 0xB0 OR B, R728
  | orC -- 0xB1 OR C, R728
  | orD -- 0xB2 OR D, R728
  | orE -- 0xB3 OR E, R728
  | orH -- 0xB4 OR H, R728
  | orL -- 0xB5 OR L, R728
  | orMemHL -- 0xB6 OR (HL), R729
  | orA -- 0xB7 OR A, R728
  | cpB -- 0xB8 CP B, R731
  | cpC -- 0xB9 CP C, R731
  | cpD -- 0xBA CP D, R731
  | cpE -- 0xBB CP E, R731
  | cpH -- 0xBC CP H, R731
  | cpL -- 0xBD CP L, R731
  | cpMemHL -- 0xBE CP (HL), R732
  | cpA -- 0xBF CP A, R731
  | retNZ -- 0xC0 RET NZ, R1031
  | popBC -- 0xC1 POP BC, R611
  | pushBC -- 0xC5 PUSH BC, R610
  | rst00 -- 0xC7 RST 0x00, R1040
  | retZ -- 0xC8 RET Z, R1031
  | ret -- 0xC9 RET, R1030
  | rst08 -- 0xCF RST 0x08, R1040
  | retNC -- 0xD0 RET NC, R1031
  | popDE -- 0xD1 POP DE, R611
  | pushDE -- 0xD5 PUSH DE, R610
  | rst10 -- 0xD7 RST 0x10, R1040
  | retC -- 0xD8 RET C, R1031
  | reti -- 0xD9 RETI, R1032
  | rst18 -- 0xDF RST 0x18, R1040
  | popHL -- 0xE1 POP HL, R611
  | ldMemCA -- 0xE2 LD (C),A, R513
  | pushHL -- 0xE5 PUSH HL, R610
  | rst20 -- 0xE7 RST 0x20, R1040
  | jpHL -- 0xE9 JP HL, R1012
  | rst28 -- 0xEF RST 0x28, R1040
  | popAF -- 0xF1 POP AF, R611
  | ldAMemC -- 0xF2 LD A,(C), R514
  | di -- 0xF3 DI, R1104
  | pushAF -- 0xF5 PUSH AF, R610
  | rst30 -- 0xF7 RST 0x30, R1040
  | ldSPHL -- 0xF9 LD SP,HL, R603
  | ei -- 0xFB EI, R1105
  | rst38 -- 0xFF RST 0x38, R1040
  | rlcB -- 0xCB00 RLC B, R911
  | rlcC -- 0xCB01 RLC C, R911
  | rlcD -- 0xCB02 RLC D, R911
  | rlcE -- 0xCB03 RLC E, R911
  | rlcH -- 0xCB04 RLC H, R911
  | rlcL -- 0xCB05 RLC L, R911
  | rlcMemHL -- 0xCB06 RLC (HL), R912
  | rlcA -- 0xCB07 RLC A, R911
  | rrcB -- 0xCB08 RRC B, R913
  | rrcC -- 0xCB09 RRC C, R913
  | rrcD -- 0xCB0A RRC D, R913
  | rrcE -- 0xCB0B RRC E, R913
  | rrcH -- 0xCB0C RRC H, R913
  | rrcL -- 0xCB0D RRC L, R913
  | rrcMemHL -- 0xCB0E RRC (HL), R914
  | rrcA -- 0xCB0F RRC A, R913
  | rlB -- 0xCB10 RL B, R915
  | rlC -- 0xCB11 RL C, R915
  | rlD -- 0xCB12 RL D, R915
  | rlE -- 0xCB13 RL E, R915
  | rlH -- 0xCB14 RL H, R915
  | rlL -- 0xCB15 RL L, R915
  | rlMemHL -- 0xCB16 RL (HL), R916
  | rlA -- 0xCB17 RL A, R915
  | rrB -- 0xCB18 RR B, R917
  | rrC -- 0xCB19 RR C, R917
  | rrD -- 0xCB1A RR D, R917
  | rrE -- 0xCB1B RR E, R917
  | rrH -- 0xCB1C RR H, R917
  | rrL -- 0xCB1D RR L, R917
  | rrMemHL -- 0xCB1E RR (HL), R918
  | rrA -- 0xCB1F RR A, R917
  | slaB -- 0xCB20 SLA B, R919
  | slaC -- 0xCB21 SLA C, R919
  | slaD -- 0xCB22 SLA D, R919
  | slaE -- 0xCB23 SLA E, R919
  | slaH -- 0xCB24 SLA H, R919
  | slaL -- 0xCB25 SLA L, R919
  | slaMemHL -- 0xCB26 SLA (HL), R920
  | slaA -- 0xCB27 SLA A, R919
  | sraB -- 0xCB28 SRA B, R921
  | sraC -- 0xCB29 SRA C, R921
  | sraD -- 0xCB2A SRA D, R921
  | sraE -- 0xCB2B SRA E, R921
  | sraH -- 0xCB2C SRA H, R921
  | sraL -- 0xCB2D SRA L, R921
  | sraMemHL -- 0xCB2E SRA (HL), R922
  | sraA -- 0xCB2F SRA A, R921
  | swapB -- 0xCB30 SWAP B, R923
  | swapC -- 0xCB31 SWAP C, R923
  | swapD -- 0xCB32 SWAP D, R923
  | swapE -- 0xCB33 SWAP E, R923
  | swapH -- 0xCB34 SWAP H, R923
  | swapL -- 0xCB35 SWAP L, R923
  | swapMemHL -- 0xCB36 SWAP (HL), R924
  | swapA -- 0xCB37 SWAP A, R923
  | srlB -- 0xCB38 SRL B, R925
  | srlC -- 0xCB39 SRL C, R925
  | srlD -- 0xCB3A SRL D, R925
  | srlE -- 0xCB3B SRL E, R925
  | srlH -- 0xCB3C SRL H, R925
  | srlL -- 0xCB3D SRL L, R925
  | srlMemHL -- 0xCB3E SRL (HL), R926
  | srlA -- 0xCB3F SRL A, R925
  | bit0B -- 0xCB40 BIT 0,B, R930
  | bit0C -- 0xCB41 BIT 0,C, R930
  | bit0D -- 0xCB42 BIT 0,D, R930
  | bit0E -- 0xCB43 BIT 0,E, R930
  | bit0H -- 0xCB44 BIT 0,H, R930
  | bit0L -- 0xCB45 BIT 0,L, R930
  | bit0MemHL -- 0xCB46 BIT 0,(HL), R931
  | bit0A -- 0xCB47 BIT 0,A, R930
  | bit1B -- 0xCB48 BIT 1,B, R930
  | bit1C -- 0xCB49 BIT 1,C, R930
  | bit1D -- 0xCB4A BIT 1,D, R930
  | bit1E -- 0xCB4B BIT 1,E, R930
  | bit1H -- 0xCB4C BIT 1,H, R930
  | bit1L -- 0xCB4D BIT 1,L, R930
  | bit1MemHL -- 0xCB4E BIT 1,(HL), R931
  | bit1A -- 0xCB4F BIT 1,A, R930
  | bit2B -- 0xCB50 BIT 2,B, R930
  | bit2C -- 0xCB51 BIT 2,C, R930
  | bit2D -- 0xCB52 BIT 2,D, R930
  | bit2E -- 0xCB53 BIT 2,E, R930
  | bit2H -- 0xCB54 BIT 2,H, R930
  | bit2L -- 0xCB55 BIT 2,L, R930
  | bit2MemHL -- 0xCB56 BIT 2,(HL), R931
  | bit2A -- 0xCB57 BIT 2,A, R930
  | bit3B -- 0xCB58 BIT 3,B, R930
  | bit3C -- 0xCB59 BIT 3,C, R930
  | bit3D -- 0xCB5A BIT 3,D, R930
  | bit3E -- 0xCB5B BIT 3,E, R930
  | bit3H -- 0xCB5C BIT 3,H, R930
  | bit3L -- 0xCB5D BIT 3,L, R930
  | bit3MemHL -- 0xCB5E BIT 3,(HL), R931
  | bit3A -- 0xCB5F BIT 3,A, R930
  | bit4B -- 0xCB60 BIT 4,B, R930
  | bit4C -- 0xCB61 BIT 4,C, R930
  | bit4D -- 0xCB62 BIT 4,D, R930
  | bit4E -- 0xCB63 BIT 4,E, R930
  | bit4H -- 0xCB64 BIT 4,H, R930
  | bit4L -- 0xCB65 BIT 4,L, R930
  | bit4MemHL -- 0xCB66 BIT 4,(HL), R931
  | bit4A -- 0xCB67 BIT 4,A, R930
  | bit5B -- 0xCB68 BIT 5,B, R930
  | bit5C -- 0xCB69 BIT 5,C, R930
  | bit5D -- 0xCB6A BIT 5,D, R930
  | bit5E -- 0xCB6B BIT 5,E, R930
  | bit5H -- 0xCB6C BIT 5,H, R930
  | bit5L -- 0xCB6D BIT 5,L, R930
  | bit5MemHL -- 0xCB6E BIT 5,(HL), R931
  | bit5A -- 0xCB6F BIT 5,A, R930
  | bit6B -- 0xCB70 BIT 6,B, R930
  | bit6C -- 0xCB71 BIT 6,C, R930
  | bit6D -- 0xCB72 BIT 6,D, R930
  | bit6E -- 0xCB73 BIT 6,E, R930
  | bit6H -- 0xCB74 BIT 6,H, R930
  | bit6L -- 0xCB75 BIT 6,L, R930
  | bit6MemHL -- 0xCB76 BIT 6,(HL), R931
  | bit6A -- 0xCB77 BIT 6,A, R930
  | bit7B -- 0xCB78 BIT 7,B, R930
  | bit7C -- 0xCB79 BIT 7,C, R930
  | bit7D -- 0xCB7A BIT 7,D, R930
  | bit7E -- 0xCB7B BIT 7,E, R930
  | bit7H -- 0xCB7C BIT 7,H, R930
  | bit7L -- 0xCB7D BIT 7,L, R930
  | bit7MemHL -- 0xCB7E BIT 7,(HL), R931
  | bit7A -- 0xCB7F BIT 7,A, R930
  | res0B -- 0xCB80 RES 0,B, R932
  | res0C -- 0xCB81 RES 0,C, R932
  | res0D -- 0xCB82 RES 0,D, R932
  | res0E -- 0xCB83 RES 0,E, R932
  | res0H -- 0xCB84 RES 0,H, R932
  | res0L -- 0xCB85 RES 0,L, R932
  | res0MemHL -- 0xCB86 RES 0,(HL), R933
  | res0A -- 0xCB87 RES 0,A, R932
  | res1B -- 0xCB88 RES 1,B, R932
  | res1C -- 0xCB89 RES 1,C, R932
  | res1D -- 0xCB8A RES 1,D, R932
  | res1E -- 0xCB8B RES 1,E, R932
  | res1H -- 0xCB8C RES 1,H, R932
  | res1L -- 0xCB8D RES 1,L, R932
  | res1MemHL -- 0xCB8E RES 1,(HL), R933
  | res1A -- 0xCB8F RES 1,A, R932
  | res2B -- 0xCB90 RES 2,B, R932
  | res2C -- 0xCB91 RES 2,C, R932
  | res2D -- 0xCB92 RES 2,D, R932
  | res2E -- 0xCB93 RES 2,E, R932
  | res2H -- 0xCB94 RES 2,H, R932
  | res2L -- 0xCB95 RES 2,L, R932
  | res2MemHL -- 0xCB96 RES 2,(HL), R933
  | res2A -- 0xCB97 RES 2,A, R932
  | res3B -- 0xCB98 RES 3,B, R932
  | res3C -- 0xCB99 RES 3,C, R932
  | res3D -- 0xCB9A RES 3,D, R932
  | res3E -- 0xCB9B RES 3,E, R932
  | res3H -- 0xCB9C RES 3,H, R932
  | res3L -- 0xCB9D RES 3,L, R932
  | res3MemHL -- 0xCB9E RES 3,(HL), R933
  | res3A -- 0xCB9F RES 3,A, R932
  | res4B -- 0xCBA0 RES 4,B, R932
  | res4C -- 0xCBA1 RES 4,C, R932
  | res4D -- 0xCBA2 RES 4,D, R932
  | res4E -- 0xCBA3 RES 4,E, R932
  | res4H -- 0xCBA4 RES 4,H, R932
  | res4L -- 0xCBA5 RES 4,L, R932
  | res4MemHL -- 0xCBA6 RES 4,(HL), R933
  | res4A -- 0xCBA7 RES 4,A, R932
  | res5B -- 0xCBA8 RES 5,B, R932
  | res5C -- 0xCBA9 RES 5,C, R932
  | res5D -- 0xCBAA RES 5,D, R932
  | res5E -- 0xCBAB RES 5,E, R932
  | res5H -- 0xCBAC RES 5,H, R932
  | res5L -- 0xCBAD RES 5,L, R932
  | res5MemHL -- 0xCBAE RES 5,(HL), R933
  | res5A -- 0xCBAF RES 5,A, R932
  | res6B -- 0xCBB0 RES 6,B, R932
  | res6C -- 0xCBB1 RES 6,C, R932
  | res6D -- 0xCBB2 RES 6,D, R932
  | res6E -- 0xCBB3 RES 6,E, R932
  | res6H -- 0xCBB4 RES 6,H, R932
  | res6L -- 0xCBB5 RES 6,L, R932
  | res6MemHL -- 0xCBB6 RES 6,(HL), R933
  | res6A -- 0xCBB7 RES 6,A, R932
  | res7B -- 0xCBB8 RES 7,B, R932
  | res7C -- 0xCBB9 RES 7,C, R932
  | res7D -- 0xCBBA RES 7,D, R932
  | res7E -- 0xCBBB RES 7,E, R932
  | res7H -- 0xCBBC RES 7,H, R932
  | res7L -- 0xCBBD RES 7,L, R932
  | res7MemHL -- 0xCBBE RES 7,(HL), R933
  | res7A -- 0xCBBF RES 7,A, R932
  | set0B -- 0xCBC0 SET 0,B, R934
  | set0C -- 0xCBC1 SET 0,C, R934
  | set0D -- 0xCBC2 SET 0,D, R934
  | set0E -- 0xCBC3 SET 0,E, R934
  | set0H -- 0xCBC4 SET 0,H, R934
  | set0L -- 0xCBC5 SET 0,L, R934
  | set0MemHL -- 0xCBC6 SET 0,(HL), R935
  | set0A -- 0xCBC7 SET 0,A, R934
  | set1B -- 0xCBC8 SET 1,B, R934
  | set1C -- 0xCBC9 SET 1,C, R934
  | set1D -- 0xCBCA SET 1,D, R934
  | set1E -- 0xCBCB SET 1,E, R934
  | set1H -- 0xCBCC SET 1,H, R934
  | set1L -- 0xCBCD SET 1,L, R934
  | set1MemHL -- 0xCBCE SET 1,(HL), R935
  | set1A -- 0xCBCF SET 1,A, R934
  | set2B -- 0xCBD0 SET 2,B, R934
  | set2C -- 0xCBD1 SET 2,C, R934
  | set2D -- 0xCBD2 SET 2,D, R934
  | set2E -- 0xCBD3 SET 2,E, R934
  | set2H -- 0xCBD4 SET 2,H, R934
  | set2L -- 0xCBD5 SET 2,L, R934
  | set2MemHL -- 0xCBD6 SET 2,(HL), R935
  | set2A -- 0xCBD7 SET 2,A, R934
  | set3B -- 0xCBD8 SET 3,B, R934
  | set3C -- 0xCBD9 SET 3,C, R934
  | set3D -- 0xCBDA SET 3,D, R934
  | set3E -- 0xCBDB SET 3,E, R934
  | set3H -- 0xCBDC SET 3,H, R934
  | set3L -- 0xCBDD SET 3,L, R934
  | set3MemHL -- 0xCBDE SET 3,(HL), R935
  | set3A -- 0xCBDF SET 3,A, R934
  | set4B -- 0xCBE0 SET 4,B, R934
  | set4C -- 0xCBE1 SET 4,C, R934
  | set4D -- 0xCBE2 SET 4,D, R934
  | set4E -- 0xCBE3 SET 4,E, R934
  | set4H -- 0xCBE4 SET 4,H, R934
  | set4L -- 0xCBE5 SET 4,L, R934
  | set4MemHL -- 0xCBE6 SET 4,(HL), R935
  | set4A -- 0xCBE7 SET 4,A, R934
  | set5B -- 0xCBE8 SET 5,B, R934
  | set5C -- 0xCBE9 SET 5,C, R934
  | set5D -- 0xCBEA SET 5,D, R934
  | set5E -- 0xCBEB SET 5,E, R934
  | set5H -- 0xCBEC SET 5,H, R934
  | set5L -- 0xCBED SET 5,L, R934
  | set5MemHL -- 0xCBEE SET 5,(HL), R935
  | set5A -- 0xCBEF SET 5,A, R934
  | set6B -- 0xCBF0 SET 6,B, R934
  | set6C -- 0xCBF1 SET 6,C, R934
  | set6D -- 0xCBF2 SET 6,D, R934
  | set6E -- 0xCBF3 SET 6,E, R934
  | set6H -- 0xCBF4 SET 6,H, R934
  | set6L -- 0xCBF5 SET 6,L, R934
  | set6MemHL -- 0xCBF6 SET 6,(HL), R935
  | set6A -- 0xCBF7 SET 6,A, R934
  | set7B -- 0xCBF8 SET 7,B, R934
  | set7C -- 0xCBF9 SET 7,C, R934
  | set7D -- 0xCBFA SET 7,D, R934
  | set7E -- 0xCBFB SET 7,E, R934
  | set7H -- 0xCBFC SET 7,H, R934
  | set7L -- 0xCBFD SET 7,L, R934
  | set7MemHL -- 0xCBFE SET 7,(HL), R935
  | set7A -- 0xCBFF SET 7,A, R934
  deriving DecidableEq, Repr

end Sys2Proof
end

