-- ==== Sys2Proof/Machine/State.lean ====
section
/-! DEFINITION. The state of the CORE as plain data: every piece of state of R100 to R137, the memory
the bus stores (R202), the recorded events, and the model's own carriers of the free values; the
reasons a step can stop; and the state after reset. -/
namespace Sys2Proof.Machine

/-- The four flags of F (R120). Bits 3 to 0 read as 0 and nothing is stored in them (R121). -/
structure Flags where
  z : Bool
  n : Bool
  h : Bool
  c : Bool
  deriving DecidableEq, Repr

/-- The register slots and flag bits an `UninitialisedRead` can name (R1202). -/
inductive RegName where
  | a | b | c | d | e | h | l | sp | fz | fn | fh | fc
  deriving DecidableEq, Repr

/-- The faults of R13, as `status` records them. -/
inductive FaultCause where
  | decodeFailure (opcode : Byte) (addr : Word)
  | uninitialisedRead (reg : RegName)
  deriving DecidableEq, Repr

/-- The reasons of `Refused(Unmodelled{reason})` (R13). -/
inductive Unmodelled where
  | haltBug | stop | dmaBusConflict | dispatchPushToIE
  deriving DecidableEq, Repr

/-- `status` (R134). -/
inductive Status where
  | running
  | faulted (cause : FaultCause)
  | refused (reason : Unmodelled)
  deriving DecidableEq, Repr

/-- What the bus and the interrupt interface record (R227, R235, R1210), each with the tick it
happened in. -/
inductive Event where
  | ioRead (addr : Word) (value : Byte) (tick : Nat)
  | ioWrite (addr : Word) (value : Byte) (tick : Nat)
  | ack (vector : Word) (tick : Nat)
  deriving DecidableEq, Repr

/-- The state of the CORE. `unwritten` lists the slots no write has reached since reset (R141): none
under `post_boot`. `mem` lists the bytes `load_program` placed and the CPU stored, addresses strictly
rising; an address it does not list holds no byte, and the bus answers a draw for it (log entry 6).
`events` is newest first. `draws` and `irq` are the model's own (log entries 1, 2 and 4). -/
structure State where
  a : Byte
  b : Byte
  c : Byte
  d : Byte
  e : Byte
  h : Byte
  l : Byte
  flags : Flags
  sp : Word
  pc : Word
  ime : Bool
  imeSched : Bool
  halted : Bool
  remaining : Nat
  dmaWindow : Nat
  status : Status
  unwritten : List RegName
  mem : List Host.Cell
  tick : Nat
  events : List Event
  draws : Nat
  irq : Option IntSource
  deriving DecidableEq, Repr

/-- The faults that end a session. Each carries the state the session is left in, which never changes
again (R134, R433). -/
inductive Fault where
  /-- Raised by the unassigned opcodes (R1201). Safe: the spec's own fatal error. -/
  | decodeFailure (opcode : Byte) (addr : Word) (final : State)
  /-- Raised by a read of a slot no write has reached (R1202); never after `State.reset`, which leaves
  no slot unwritten. Safe: the spec's own fault. -/
  | uninitialisedRead (reg : RegName) (final : State)
  deriving DecidableEq, Repr

/-- The refusals of R13. Each of the spec's four carries the state the session is left in. -/
inductive Refusal where
  /-- An instruction that has no meaning in the model yet. Safe. -/
  | notModelled (mnemonic : String)
  /-- Raised by `HALT` with IME = 0 and an interrupt pending (R1102). Safe: the spec refuses it. -/
  | haltBug (final : State)
  /-- Raised by `STOP` (R1103). Safe: the spec refuses it. -/
  | stop (final : State)
  /-- Raised by a CPU access outside HRAM in the DMA window (R228). Safe: the spec refuses it. -/
  | dmaBusConflict (final : State)
  /-- Raised by an interrupt entry whose push would write IE (R1212). Safe: the spec refuses it. -/
  | dispatchPushToIE (final : State)
  deriving DecidableEq, Repr

/-- The machine at the first tick under `RESET_PROFILE = post_boot`, the profile R8 takes (R140, R142,
R1302). The answer of `pending_interrupt()` in that tick is a draw like every later one (R1210; log
entry 4). -/
def State.reset : State where
  a := 0x01
  b := 0x00
  c := 0x13
  d := 0x00
  e := 0xD8
  h := 0x01
  l := 0x4D
  flags := { z := true, n := false, h := true, c := true }
  sp := 0xFFFE
  pc := 0x0100
  ime := false
  imeSched := false
  halted := false
  remaining := 0
  dmaWindow := 0
  status := .running
  unwritten := []
  mem := []
  tick := 0
  events := []
  draws := 0
  irq := Config.pendingAnswer 0

/-- The machine at the first tick under the alternative `RESET_PROFILE = power_on` (R141, R142): pc is
0x0000 and no slot has been written. The zeros stand in slots that no instruction can read before it
writes them (log entry 5). R1230 leaves IE and IF unspecified here, and the first answer of
`pending_interrupt()` is a draw (R1210; log entry 4). -/
def State.resetPowerOn : State where
  a := 0
  b := 0
  c := 0
  d := 0
  e := 0
  h := 0
  l := 0
  flags := { z := false, n := false, h := false, c := false }
  sp := 0
  pc := 0x0000
  ime := false
  imeSched := false
  halted := false
  remaining := 0
  dmaWindow := 0
  status := .running
  unwritten := [.a, .b, .c, .d, .e, .h, .l, .sp, .fz, .fn, .fh, .fc]
  mem := []
  tick := 0
  events := []
  draws := 0
  irq := Config.pendingAnswer 0

end Sys2Proof.Machine
end

