-- ==== Sys2Proof/WellFormed.lean ====
section
/-! DEFINITION. Which terms of Instr are instructions of the machine: `unassigned` carries one of the
11 bytes without an entry (R340), and `prefixCB` is never an instruction of its own, since the row of
the prefix names no handler and the pair of bytes is the extended instruction (R330, R1101). Every
other term is one: its operand fills its field. -/
namespace Sys2Proof

/-- The 11 primary bytes with no decode entry (R340). -/
def unassignedOpcodes : List Byte :=
  [0xD3, 0xDB, 0xDD, 0xE3, 0xE4, 0xEB, 0xEC, 0xED, 0xF4, 0xFC, 0xFD]

/-- An operand of `unassigned` is one of the 11 bytes. -/
def checkUnassigned (opcode : Byte) : Bool := unassignedOpcodes.contains opcode

/-- The term is an instruction of the machine. -/
def Instr.wf (i : Instr) : Bool :=
  match i with
  | .unassigned opcode => checkUnassigned opcode
  | .prefixCB _ => false
  | _ => true

end Sys2Proof
end

