-- ==== Sys2Proof/Decode.lean ====
section
/-! DEFINITION. The Decode Table as the two opcode maps give it (R360, R361), the decoder, total on any
bytes, the encoder, the forms that name an instruction by its fields (R303 to R309), and the row data
of the table: descriptors, length and costs (R320, R321). -/
namespace Sys2Proof

open Sys2Proof.Machine (RegName)

/-! ### The Decode Table -/

/-- A primary entry: what follows the opcode in the stream. The list names the registers whose
source descriptor is resolved before the stream bytes are fetched (R410). -/
inductive Entry where
  /-- Format `op`: nothing follows. -/
  | op (i : Instr)
  /-- Format `op_n8`: one byte. -/
  | op8 (before : List RegName) (f : Byte → Instr)
  /-- Format `op_n16`: two bytes, low byte first. -/
  | op16 (before : List RegName) (f : Word → Instr)
  /-- `STOP`: a second byte that is neither checked (R343) nor fetched (R1103). -/
  | opPad (i : Instr)
  /-- The prefix: the extended opcode follows (R330). -/
  | extend
  /-- No entry: a DecodeFailure (R340). -/
  | miss

/-- Row 0x of the primary map (R360). -/
def primary0 : List Entry :=
  [.op .nop, .op16 [] .ldBCN16, .op .ldMemBCA, .op .incBC,
   .op .incB, .op .decB, .op8 [] .ldBN8, .op .rlca,
   .op16 [.sp] .ldMemA16SP, .op .addHLBC, .op .ldAMemBC, .op .decBC,
   .op .incC, .op .decC, .op8 [] .ldCN8, .op .rrca]

/-- Row 1x of the primary map (R360). -/
def primary1 : List Entry :=
  [.opPad .stop, .op16 [] .ldDEN16, .op .ldMemDEA, .op .incDE,
   .op .incD, .op .decD, .op8 [] .ldDN8, .op .rla,
   .op8 [] .jrE8, .op .addHLDE, .op .ldAMemDE, .op .decDE,
   .op .incE, .op .decE, .op8 [] .ldEN8, .op .rra]

/-- Row 2x of the primary map (R360). -/
def primary2 : List Entry :=
  [.op8 [] .jrNZE8, .op16 [] .ldHLN16, .op .ldMemHLIncA, .op .incHL,
   .op .incH, .op .decH, .op8 [] .ldHN8, .op .daa,
   .op8 [] .jrZE8, .op .addHLHL, .op .ldAMemHLInc, .op .decHL,
   .op .incL, .op .decL, .op8 [] .ldLN8, .op .cpl]

/-- Row 3x of the primary map (R360). -/
def primary3 : List Entry :=
  [.op8 [] .jrNCE8, .op16 [] .ldSPN16, .op .ldMemHLDecA, .op .incSP,
   .op .incMemHL, .op .decMemHL, .op8 [] .ldMemHLN8, .op .scf,
   .op8 [] .jrCE8, .op .addHLSP, .op .ldAMemHLDec, .op .decSP,
   .op .incA, .op .decA, .op8 [] .ldAN8, .op .ccf]

/-- Row 4x of the primary map (R360). -/
def primary4 : List Entry :=
  [.op .ldBB, .op .ldBC, .op .ldBD, .op .ldBE,
   .op .ldBH, .op .ldBL, .op .ldBMemHL, .op .ldBA,
   .op .ldCB, .op .ldCC, .op .ldCD, .op .ldCE,
   .op .ldCH, .op .ldCL, .op .ldCMemHL, .op .ldCA]

/-- Row 5x of the primary map (R360). -/
def primary5 : List Entry :=
  [.op .ldDB, .op .ldDC, .op .ldDD, .op .ldDE,
   .op .ldDH, .op .ldDL, .op .ldDMemHL, .op .ldDA,
   .op .ldEB, .op .ldEC, .op .ldED, .op .ldEE,
   .op .ldEH, .op .ldEL, .op .ldEMemHL, .op .ldEA]

/-- Row 6x of the primary map (R360). -/
def primary6 : List Entry :=
  [.op .ldHB, .op .ldHC, .op .ldHD, .op .ldHE,
   .op .ldHH, .op .ldHL, .op .ldHMemHL, .op .ldHA,
   .op .ldLB, .op .ldLC, .op .ldLD, .op .ldLE,
   .op .ldLH, .op .ldLL, .op .ldLMemHL, .op .ldLA]

/-- Row 7x of the primary map (R360). -/
def primary7 : List Entry :=
  [.op .ldMemHLB, .op .ldMemHLC, .op .ldMemHLD, .op .ldMemHLE,
   .op .ldMemHLH, .op .ldMemHLL, .op .halt, .op .ldMemHLA,
   .op .ldAB, .op .ldAC, .op .ldAD, .op .ldAE,
   .op .ldAH, .op .ldAL, .op .ldAMemHL, .op .ldAA]

/-- Row 8x of the primary map (R360). -/
def primary8 : List Entry :=
  [.op .addAB, .op .addAC, .op .addAD, .op .addAE,
   .op .addAH, .op .addAL, .op .addAMemHL, .op .addAA,
   .op .adcAB, .op .adcAC, .op .adcAD, .op .adcAE,
   .op .adcAH, .op .adcAL, .op .adcAMemHL, .op .adcAA]

/-- Row 9x of the primary map (R360). -/
def primary9 : List Entry :=
  [.op .subB, .op .subC, .op .subD, .op .subE,
   .op .subH, .op .subL, .op .subMemHL, .op .subA,
   .op .sbcAB, .op .sbcAC, .op .sbcAD, .op .sbcAE,
   .op .sbcAH, .op .sbcAL, .op .sbcAMemHL, .op .sbcAA]

/-- Row Ax of the primary map (R360). -/
def primaryA : List Entry :=
  [.op .andB, .op .andC, .op .andD, .op .andE,
   .op .andH, .op .andL, .op .andMemHL, .op .andA,
   .op .xorB, .op .xorC, .op .xorD, .op .xorE,
   .op .xorH, .op .xorL, .op .xorMemHL, .op .xorA]

/-- Row Bx of the primary map (R360). -/
def primaryB : List Entry :=
  [.op .orB, .op .orC, .op .orD, .op .orE,
   .op .orH, .op .orL, .op .orMemHL, .op .orA,
   .op .cpB, .op .cpC, .op .cpD, .op .cpE,
   .op .cpH, .op .cpL, .op .cpMemHL, .op .cpA]

/-- Row Cx of the primary map (R360). -/
def primaryC : List Entry :=
  [.op .retNZ, .op .popBC, .op16 [] .jpNZA16, .op16 [] .jpA16,
   .op16 [] .callNZA16, .op .pushBC, .op8 [] .addAN8, .op .rst00,
   .op .retZ, .op .ret, .op16 [] .jpZA16, .extend,
   .op16 [] .callZA16, .op16 [] .callA16, .op8 [] .adcAN8, .op .rst08]

/-- Row Dx of the primary map (R360). -/
def primaryD : List Entry :=
  [.op .retNC, .op .popDE, .op16 [] .jpNCA16, .miss,
   .op16 [] .callNCA16, .op .pushDE, .op8 [] .subN8, .op .rst10,
   .op .retC, .op .reti, .op16 [] .jpCA16, .miss,
   .op16 [] .callCA16, .miss, .op8 [] .sbcAN8, .op .rst18]

/-- Row Ex of the primary map (R360). -/
def primaryE : List Entry :=
  [.op8 [.a] .ldhMemA8A, .op .popHL, .op .ldMemCA, .miss,
   .miss, .op .pushHL, .op8 [] .andN8, .op .rst20,
   .op8 [] .addSPE8, .op .jpHL, .op16 [.a] .ldMemA16A, .miss,
   .miss, .miss, .op8 [] .xorN8, .op .rst28]

/-- Row Fx of the primary map (R360). -/
def primaryF : List Entry :=
  [.op8 [] .ldhAMemA8, .op .popAF, .op .ldAMemC, .op .di,
   .miss, .op .pushAF, .op8 [] .orN8, .op .rst30,
   .op8 [] .ldHLSPE8, .op .ldSPHL, .op16 [] .ldAMemA16, .op .ei,
   .miss, .miss, .op8 [] .cpN8, .op .rst38]

/-- The primary map, sixteen rows of sixteen (R360). -/
def primaryMap : List (List Entry) :=
  [primary0, primary1, primary2, primary3, primary4, primary5, primary6, primary7,
   primary8, primary9, primaryA, primaryB, primaryC, primaryD, primaryE, primaryF]

/-- Row 0x of the extended map (R361). -/
def extended0 : List Instr :=
  [.rlcB, .rlcC, .rlcD, .rlcE, .rlcH, .rlcL, .rlcMemHL, .rlcA,
   .rrcB, .rrcC, .rrcD, .rrcE, .rrcH, .rrcL, .rrcMemHL, .rrcA]

/-- Row 1x of the extended map (R361). -/
def extended1 : List Instr :=
  [.rlB, .rlC, .rlD, .rlE, .rlH, .rlL, .rlMemHL, .rlA,
   .rrB, .rrC, .rrD, .rrE, .rrH, .rrL, .rrMemHL, .rrA]

/-- Row 2x of the extended map (R361). -/
def extended2 : List Instr :=
  [.slaB, .slaC, .slaD, .slaE, .slaH, .slaL, .slaMemHL, .slaA,
   .sraB, .sraC, .sraD, .sraE, .sraH, .sraL, .sraMemHL, .sraA]

/-- Row 3x of the extended map (R361). -/
def extended3 : List Instr :=
  [.swapB, .swapC, .swapD, .swapE, .swapH, .swapL, .swapMemHL, .swapA,
   .srlB, .srlC, .srlD, .srlE, .srlH, .srlL, .srlMemHL, .srlA]

/-- Row 4x of the extended map (R361). -/
def extended4 : List Instr :=
  [.bit0B, .bit0C, .bit0D, .bit0E, .bit0H, .bit0L, .bit0MemHL, .bit0A,
   .bit1B, .bit1C, .bit1D, .bit1E, .bit1H, .bit1L, .bit1MemHL, .bit1A]

/-- Row 5x of the extended map (R361). -/
def extended5 : List Instr :=
  [.bit2B, .bit2C, .bit2D, .bit2E, .bit2H, .bit2L, .bit2MemHL, .bit2A,
   .bit3B, .bit3C, .bit3D, .bit3E, .bit3H, .bit3L, .bit3MemHL, .bit3A]

/-- Row 6x of the extended map (R361). -/
def extended6 : List Instr :=
  [.bit4B, .bit4C, .bit4D, .bit4E, .bit4H, .bit4L, .bit4MemHL, .bit4A,
   .bit5B, .bit5C, .bit5D, .bit5E, .bit5H, .bit5L, .bit5MemHL, .bit5A]

/-- Row 7x of the extended map (R361). -/
def extended7 : List Instr :=
  [.bit6B, .bit6C, .bit6D, .bit6E, .bit6H, .bit6L, .bit6MemHL, .bit6A,
   .bit7B, .bit7C, .bit7D, .bit7E, .bit7H, .bit7L, .bit7MemHL, .bit7A]

/-- Row 8x of the extended map (R361). -/
def extended8 : List Instr :=
  [.res0B, .res0C, .res0D, .res0E, .res0H, .res0L, .res0MemHL, .res0A,
   .res1B, .res1C, .res1D, .res1E, .res1H, .res1L, .res1MemHL, .res1A]

/-- Row 9x of the extended map (R361). -/
def extended9 : List Instr :=
  [.res2B, .res2C, .res2D, .res2E, .res2H, .res2L, .res2MemHL, .res2A,
   .res3B, .res3C, .res3D, .res3E, .res3H, .res3L, .res3MemHL, .res3A]

/-- Row Ax of the extended map (R361). -/
def extendedA : List Instr :=
  [.res4B, .res4C, .res4D, .res4E, .res4H, .res4L, .res4MemHL, .res4A,
   .res5B, .res5C, .res5D, .res5E, .res5H, .res5L, .res5MemHL, .res5A]

/-- Row Bx of the extended map (R361). -/
def extendedB : List Instr :=
  [.res6B, .res6C, .res6D, .res6E, .res6H, .res6L, .res6MemHL, .res6A,
   .res7B, .res7C, .res7D, .res7E, .res7H, .res7L, .res7MemHL, .res7A]

/-- Row Cx of the extended map (R361). -/
def extendedC : List Instr :=
  [.set0B, .set0C, .set0D, .set0E, .set0H, .set0L, .set0MemHL, .set0A,
   .set1B, .set1C, .set1D, .set1E, .set1H, .set1L, .set1MemHL, .set1A]

/-- Row Dx of the extended map (R361). -/
def extendedD : List Instr :=
  [.set2B, .set2C, .set2D, .set2E, .set2H, .set2L, .set2MemHL, .set2A,
   .set3B, .set3C, .set3D, .set3E, .set3H, .set3L, .set3MemHL, .set3A]

/-- Row Ex of the extended map (R361). -/
def extendedE : List Instr :=
  [.set4B, .set4C, .set4D, .set4E, .set4H, .set4L, .set4MemHL, .set4A,
   .set5B, .set5C, .set5D, .set5E, .set5H, .set5L, .set5MemHL, .set5A]

/-- Row Fx of the extended map (R361). -/
def extendedF : List Instr :=
  [.set6B, .set6C, .set6D, .set6E, .set6H, .set6L, .set6MemHL, .set6A,
   .set7B, .set7C, .set7D, .set7E, .set7H, .set7L, .set7MemHL, .set7A]

/-- The extended map, sixteen rows of sixteen (R361). -/
def extendedMap : List (List Instr) :=
  [extended0, extended1, extended2, extended3, extended4, extended5, extended6, extended7,
   extended8, extended9, extendedA, extendedB, extendedC, extendedD, extendedE, extendedF]

/-- `lookup(opcode, false)` (R415): the entry of a primary opcode. -/
def lookupPrimary (opcode : Byte) : Entry :=
  (primaryMap.getD (opcode.toNat / 16) []).getD (opcode.toNat % 16) .miss

/-- `lookup(opcode, true)` (R415): the instruction of an extended opcode. It never misses (R331). -/
def lookupExtended (opcode : Byte) : Instr :=
  (extendedMap.getD (opcode.toNat / 16) []).getD (opcode.toNat % 16) .nop

/-! ### The decoder -/

/-- Why bytes are no whole instruction. -/
inductive DecodeError where
  /-- No byte is there. -/
  | noBytes
  /-- The stream ends inside the instruction that this opcode begins. -/
  | truncated (opcode : Byte)
  deriving DecidableEq, Repr

/-- The instruction that the stream begins with, and the rest of the stream (R300, R301, R330). A byte
with no entry decodes to `unassigned`, whose meaning is the DecodeFailure. -/
def decode (bytes : List Byte) : Except DecodeError (Instr × List Byte) :=
  match bytes with
  | [] => .error .noBytes
  | opcode :: rest =>
    match lookupPrimary opcode, rest with
    | .op i, rest => .ok (i, rest)
    | .miss, rest => .ok (.unassigned opcode, rest)
    | .op8 _ f, n :: rest => .ok (f n, rest)
    | .opPad i, _ :: rest => .ok (i, rest)
    | .extend, op2 :: rest => .ok (lookupExtended op2, rest)
    | .op16 _ f, lo :: hi :: rest => .ok (f (wordOf hi lo), rest)
    | _, _ => .error (.truncated opcode)

/-! ### The encoder -/

/-- The bytes of an instruction, first byte first (R301). `STOP`'s second byte is the conventional 0x00
(R343). -/
def encode (i : Instr) : List Byte :=
  match i with
  | .nop => [0x00]
  | .ldBCN16 n => [0x01, loByte n, hiByte n]
  | .ldMemBCA => [0x02]
  | .incBC => [0x03]
  | .incB => [0x04]
  | .decB => [0x05]
  | .ldBN8 n => [0x06, n]
  | .rlca => [0x07]
  | .ldMemA16SP n => [0x08, loByte n, hiByte n]
  | .addHLBC => [0x09]
  | .ldAMemBC => [0x0A]
  | .decBC => [0x0B]
  | .incC => [0x0C]
  | .decC => [0x0D]
  | .ldCN8 n => [0x0E, n]
  | .rrca => [0x0F]
  | .stop => [0x10, 0x00]
  | .ldDEN16 n => [0x11, loByte n, hiByte n]
  | .ldMemDEA => [0x12]
  | .incDE => [0x13]
  | .incD => [0x14]
  | .decD => [0x15]
  | .ldDN8 n => [0x16, n]
  | .rla => [0x17]
  | .jrE8 e => [0x18, e]
  | .addHLDE => [0x19]
  | .ldAMemDE => [0x1A]
  | .decDE => [0x1B]
  | .incE => [0x1C]
  | .decE => [0x1D]
  | .ldEN8 n => [0x1E, n]
  | .rra => [0x1F]
  | .jrNZE8 e => [0x20, e]
  | .ldHLN16 n => [0x21, loByte n, hiByte n]
  | .ldMemHLIncA => [0x22]
  | .incHL => [0x23]
  | .incH => [0x24]
  | .decH => [0x25]
  | .ldHN8 n => [0x26, n]
  | .daa => [0x27]
  | .jrZE8 e => [0x28, e]
  | .addHLHL => [0x29]
  | .ldAMemHLInc => [0x2A]
  | .decHL => [0x2B]
  | .incL => [0x2C]
  | .decL => [0x2D]
  | .ldLN8 n => [0x2E, n]
  | .cpl => [0x2F]
  | .jrNCE8 e => [0x30, e]
  | .ldSPN16 n => [0x31, loByte n, hiByte n]
  | .ldMemHLDecA => [0x32]
  | .incSP => [0x33]
  | .incMemHL => [0x34]
  | .decMemHL => [0x35]
  | .ldMemHLN8 n => [0x36, n]
  | .scf => [0x37]
  | .jrCE8 e => [0x38, e]
  | .addHLSP => [0x39]
  | .ldAMemHLDec => [0x3A]
  | .decSP => [0x3B]
  | .incA => [0x3C]
  | .decA => [0x3D]
  | .ldAN8 n => [0x3E, n]
  | .ccf => [0x3F]
  | .ldBB => [0x40]
  | .ldBC => [0x41]
  | .ldBD => [0x42]
  | .ldBE => [0x43]
  | .ldBH => [0x44]
  | .ldBL => [0x45]
  | .ldBMemHL => [0x46]
  | .ldBA => [0x47]
  | .ldCB => [0x48]
  | .ldCC => [0x49]
  | .ldCD => [0x4A]
  | .ldCE => [0x4B]
  | .ldCH => [0x4C]
  | .ldCL => [0x4D]
  | .ldCMemHL => [0x4E]
  | .ldCA => [0x4F]
  | .ldDB => [0x50]
  | .ldDC => [0x51]
  | .ldDD => [0x52]
  | .ldDE => [0x53]
  | .ldDH => [0x54]
  | .ldDL => [0x55]
  | .ldDMemHL => [0x56]
  | .ldDA => [0x57]
  | .ldEB => [0x58]
  | .ldEC => [0x59]
  | .ldED => [0x5A]
  | .ldEE => [0x5B]
  | .ldEH => [0x5C]
  | .ldEL => [0x5D]
  | .ldEMemHL => [0x5E]
  | .ldEA => [0x5F]
  | .ldHB => [0x60]
  | .ldHC => [0x61]
  | .ldHD => [0x62]
  | .ldHE => [0x63]
  | .ldHH => [0x64]
  | .ldHL => [0x65]
  | .ldHMemHL => [0x66]
  | .ldHA => [0x67]
  | .ldLB => [0x68]
  | .ldLC => [0x69]
  | .ldLD => [0x6A]
  | .ldLE => [0x6B]
  | .ldLH => [0x6C]
  | .ldLL => [0x6D]
  | .ldLMemHL => [0x6E]
  | .ldLA => [0x6F]
  | .ldMemHLB => [0x70]
  | .ldMemHLC => [0x71]
  | .ldMemHLD => [0x72]
  | .ldMemHLE => [0x73]
  | .ldMemHLH => [0x74]
  | .ldMemHLL => [0x75]
  | .halt => [0x76]
  | .ldMemHLA => [0x77]
  | .ldAB => [0x78]
  | .ldAC => [0x79]
  | .ldAD => [0x7A]
  | .ldAE => [0x7B]
  | .ldAH => [0x7C]
  | .ldAL => [0x7D]
  | .ldAMemHL => [0x7E]
  | .ldAA => [0x7F]
  | .addAB => [0x80]
  | .addAC => [0x81]
  | .addAD => [0x82]
  | .addAE => [0x83]
  | .addAH => [0x84]
  | .addAL => [0x85]
  | .addAMemHL => [0x86]
  | .addAA => [0x87]
  | .adcAB => [0x88]
  | .adcAC => [0x89]
  | .adcAD => [0x8A]
  | .adcAE => [0x8B]
  | .adcAH => [0x8C]
  | .adcAL => [0x8D]
  | .adcAMemHL => [0x8E]
  | .adcAA => [0x8F]
  | .subB => [0x90]
  | .subC => [0x91]
  | .subD => [0x92]
  | .subE => [0x93]
  | .subH => [0x94]
  | .subL => [0x95]
  | .subMemHL => [0x96]
  | .subA => [0x97]
  | .sbcAB => [0x98]
  | .sbcAC => [0x99]
  | .sbcAD => [0x9A]
  | .sbcAE => [0x9B]
  | .sbcAH => [0x9C]
  | .sbcAL => [0x9D]
  | .sbcAMemHL => [0x9E]
  | .sbcAA => [0x9F]
  | .andB => [0xA0]
  | .andC => [0xA1]
  | .andD => [0xA2]
  | .andE => [0xA3]
  | .andH => [0xA4]
  | .andL => [0xA5]
  | .andMemHL => [0xA6]
  | .andA => [0xA7]
  | .xorB => [0xA8]
  | .xorC => [0xA9]
  | .xorD => [0xAA]
  | .xorE => [0xAB]
  | .xorH => [0xAC]
  | .xorL => [0xAD]
  | .xorMemHL => [0xAE]
  | .xorA => [0xAF]
  | .orB => [0xB0]
  | .orC => [0xB1]
  | .orD => [0xB2]
  | .orE => [0xB3]
  | .orH => [0xB4]
  | .orL => [0xB5]
  | .orMemHL => [0xB6]
  | .orA => [0xB7]
  | .cpB => [0xB8]
  | .cpC => [0xB9]
  | .cpD => [0xBA]
  | .cpE => [0xBB]
  | .cpH => [0xBC]
  | .cpL => [0xBD]
  | .cpMemHL => [0xBE]
  | .cpA => [0xBF]
  | .retNZ => [0xC0]
  | .popBC => [0xC1]
  | .jpNZA16 n => [0xC2, loByte n, hiByte n]
  | .jpA16 n => [0xC3, loByte n, hiByte n]
  | .callNZA16 n => [0xC4, loByte n, hiByte n]
  | .pushBC => [0xC5]
  | .addAN8 n => [0xC6, n]
  | .rst00 => [0xC7]
  | .retZ => [0xC8]
  | .ret => [0xC9]
  | .jpZA16 n => [0xCA, loByte n, hiByte n]
  | .prefixCB op2 => [0xCB, op2]
  | .callZA16 n => [0xCC, loByte n, hiByte n]
  | .callA16 n => [0xCD, loByte n, hiByte n]
  | .adcAN8 n => [0xCE, n]
  | .rst08 => [0xCF]
  | .retNC => [0xD0]
  | .popDE => [0xD1]
  | .jpNCA16 n => [0xD2, loByte n, hiByte n]
  | .unassigned opcode => [opcode]
  | .callNCA16 n => [0xD4, loByte n, hiByte n]
  | .pushDE => [0xD5]
  | .subN8 n => [0xD6, n]
  | .rst10 => [0xD7]
  | .retC => [0xD8]
  | .reti => [0xD9]
  | .jpCA16 n => [0xDA, loByte n, hiByte n]
  | .callCA16 n => [0xDC, loByte n, hiByte n]
  | .sbcAN8 n => [0xDE, n]
  | .rst18 => [0xDF]
  | .ldhMemA8A n => [0xE0, n]
  | .popHL => [0xE1]
  | .ldMemCA => [0xE2]
  | .pushHL => [0xE5]
  | .andN8 n => [0xE6, n]
  | .rst20 => [0xE7]
  | .addSPE8 e => [0xE8, e]
  | .jpHL => [0xE9]
  | .ldMemA16A n => [0xEA, loByte n, hiByte n]
  | .xorN8 n => [0xEE, n]
  | .rst28 => [0xEF]
  | .ldhAMemA8 n => [0xF0, n]
  | .popAF => [0xF1]
  | .ldAMemC => [0xF2]
  | .di => [0xF3]
  | .pushAF => [0xF5]
  | .orN8 n => [0xF6, n]
  | .rst30 => [0xF7]
  | .ldHLSPE8 e => [0xF8, e]
  | .ldSPHL => [0xF9]
  | .ldAMemA16 n => [0xFA, loByte n, hiByte n]
  | .ei => [0xFB]
  | .cpN8 n => [0xFE, n]
  | .rst38 => [0xFF]
  | .rlcB => [0xCB, 0x00]
  | .rlcC => [0xCB, 0x01]
  | .rlcD => [0xCB, 0x02]
  | .rlcE => [0xCB, 0x03]
  | .rlcH => [0xCB, 0x04]
  | .rlcL => [0xCB, 0x05]
  | .rlcMemHL => [0xCB, 0x06]
  | .rlcA => [0xCB, 0x07]
  | .rrcB => [0xCB, 0x08]
  | .rrcC => [0xCB, 0x09]
  | .rrcD => [0xCB, 0x0A]
  | .rrcE => [0xCB, 0x0B]
  | .rrcH => [0xCB, 0x0C]
  | .rrcL => [0xCB, 0x0D]
  | .rrcMemHL => [0xCB, 0x0E]
  | .rrcA => [0xCB, 0x0F]
  | .rlB => [0xCB, 0x10]
  | .rlC => [0xCB, 0x11]
  | .rlD => [0xCB, 0x12]
  | .rlE => [0xCB, 0x13]
  | .rlH => [0xCB, 0x14]
  | .rlL => [0xCB, 0x15]
  | .rlMemHL => [0xCB, 0x16]
  | .rlA => [0xCB, 0x17]
  | .rrB => [0xCB, 0x18]
  | .rrC => [0xCB, 0x19]
  | .rrD => [0xCB, 0x1A]
  | .rrE => [0xCB, 0x1B]
  | .rrH => [0xCB, 0x1C]
  | .rrL => [0xCB, 0x1D]
  | .rrMemHL => [0xCB, 0x1E]
  | .rrA => [0xCB, 0x1F]
  | .slaB => [0xCB, 0x20]
  | .slaC => [0xCB, 0x21]
  | .slaD => [0xCB, 0x22]
  | .slaE => [0xCB, 0x23]
  | .slaH => [0xCB, 0x24]
  | .slaL => [0xCB, 0x25]
  | .slaMemHL => [0xCB, 0x26]
  | .slaA => [0xCB, 0x27]
  | .sraB => [0xCB, 0x28]
  | .sraC => [0xCB, 0x29]
  | .sraD => [0xCB, 0x2A]
  | .sraE => [0xCB, 0x2B]
  | .sraH => [0xCB, 0x2C]
  | .sraL => [0xCB, 0x2D]
  | .sraMemHL => [0xCB, 0x2E]
  | .sraA => [0xCB, 0x2F]
  | .swapB => [0xCB, 0x30]
  | .swapC => [0xCB, 0x31]
  | .swapD => [0xCB, 0x32]
  | .swapE => [0xCB, 0x33]
  | .swapH => [0xCB, 0x34]
  | .swapL => [0xCB, 0x35]
  | .swapMemHL => [0xCB, 0x36]
  | .swapA => [0xCB, 0x37]
  | .srlB => [0xCB, 0x38]
  | .srlC => [0xCB, 0x39]
  | .srlD => [0xCB, 0x3A]
  | .srlE => [0xCB, 0x3B]
  | .srlH => [0xCB, 0x3C]
  | .srlL => [0xCB, 0x3D]
  | .srlMemHL => [0xCB, 0x3E]
  | .srlA => [0xCB, 0x3F]
  | .bit0B => [0xCB, 0x40]
  | .bit0C => [0xCB, 0x41]
  | .bit0D => [0xCB, 0x42]
  | .bit0E => [0xCB, 0x43]
  | .bit0H => [0xCB, 0x44]
  | .bit0L => [0xCB, 0x45]
  | .bit0MemHL => [0xCB, 0x46]
  | .bit0A => [0xCB, 0x47]
  | .bit1B => [0xCB, 0x48]
  | .bit1C => [0xCB, 0x49]
  | .bit1D => [0xCB, 0x4A]
  | .bit1E => [0xCB, 0x4B]
  | .bit1H => [0xCB, 0x4C]
  | .bit1L => [0xCB, 0x4D]
  | .bit1MemHL => [0xCB, 0x4E]
  | .bit1A => [0xCB, 0x4F]
  | .bit2B => [0xCB, 0x50]
  | .bit2C => [0xCB, 0x51]
  | .bit2D => [0xCB, 0x52]
  | .bit2E => [0xCB, 0x53]
  | .bit2H => [0xCB, 0x54]
  | .bit2L => [0xCB, 0x55]
  | .bit2MemHL => [0xCB, 0x56]
  | .bit2A => [0xCB, 0x57]
  | .bit3B => [0xCB, 0x58]
  | .bit3C => [0xCB, 0x59]
  | .bit3D => [0xCB, 0x5A]
  | .bit3E => [0xCB, 0x5B]
  | .bit3H => [0xCB, 0x5C]
  | .bit3L => [0xCB, 0x5D]
  | .bit3MemHL => [0xCB, 0x5E]
  | .bit3A => [0xCB, 0x5F]
  | .bit4B => [0xCB, 0x60]
  | .bit4C => [0xCB, 0x61]
  | .bit4D => [0xCB, 0x62]
  | .bit4E => [0xCB, 0x63]
  | .bit4H => [0xCB, 0x64]
  | .bit4L => [0xCB, 0x65]
  | .bit4MemHL => [0xCB, 0x66]
  | .bit4A => [0xCB, 0x67]
  | .bit5B => [0xCB, 0x68]
  | .bit5C => [0xCB, 0x69]
  | .bit5D => [0xCB, 0x6A]
  | .bit5E => [0xCB, 0x6B]
  | .bit5H => [0xCB, 0x6C]
  | .bit5L => [0xCB, 0x6D]
  | .bit5MemHL => [0xCB, 0x6E]
  | .bit5A => [0xCB, 0x6F]
  | .bit6B => [0xCB, 0x70]
  | .bit6C => [0xCB, 0x71]
  | .bit6D => [0xCB, 0x72]
  | .bit6E => [0xCB, 0x73]
  | .bit6H => [0xCB, 0x74]
  | .bit6L => [0xCB, 0x75]
  | .bit6MemHL => [0xCB, 0x76]
  | .bit6A => [0xCB, 0x77]
  | .bit7B => [0xCB, 0x78]
  | .bit7C => [0xCB, 0x79]
  | .bit7D => [0xCB, 0x7A]
  | .bit7E => [0xCB, 0x7B]
  | .bit7H => [0xCB, 0x7C]
  | .bit7L => [0xCB, 0x7D]
  | .bit7MemHL => [0xCB, 0x7E]
  | .bit7A => [0xCB, 0x7F]
  | .res0B => [0xCB, 0x80]
  | .res0C => [0xCB, 0x81]
  | .res0D => [0xCB, 0x82]
  | .res0E => [0xCB, 0x83]
  | .res0H => [0xCB, 0x84]
  | .res0L => [0xCB, 0x85]
  | .res0MemHL => [0xCB, 0x86]
  | .res0A => [0xCB, 0x87]
  | .res1B => [0xCB, 0x88]
  | .res1C => [0xCB, 0x89]
  | .res1D => [0xCB, 0x8A]
  | .res1E => [0xCB, 0x8B]
  | .res1H => [0xCB, 0x8C]
  | .res1L => [0xCB, 0x8D]
  | .res1MemHL => [0xCB, 0x8E]
  | .res1A => [0xCB, 0x8F]
  | .res2B => [0xCB, 0x90]
  | .res2C => [0xCB, 0x91]
  | .res2D => [0xCB, 0x92]
  | .res2E => [0xCB, 0x93]
  | .res2H => [0xCB, 0x94]
  | .res2L => [0xCB, 0x95]
  | .res2MemHL => [0xCB, 0x96]
  | .res2A => [0xCB, 0x97]
  | .res3B => [0xCB, 0x98]
  | .res3C => [0xCB, 0x99]
  | .res3D => [0xCB, 0x9A]
  | .res3E => [0xCB, 0x9B]
  | .res3H => [0xCB, 0x9C]
  | .res3L => [0xCB, 0x9D]
  | .res3MemHL => [0xCB, 0x9E]
  | .res3A => [0xCB, 0x9F]
  | .res4B => [0xCB, 0xA0]
  | .res4C => [0xCB, 0xA1]
  | .res4D => [0xCB, 0xA2]
  | .res4E => [0xCB, 0xA3]
  | .res4H => [0xCB, 0xA4]
  | .res4L => [0xCB, 0xA5]
  | .res4MemHL => [0xCB, 0xA6]
  | .res4A => [0xCB, 0xA7]
  | .res5B => [0xCB, 0xA8]
  | .res5C => [0xCB, 0xA9]
  | .res5D => [0xCB, 0xAA]
  | .res5E => [0xCB, 0xAB]
  | .res5H => [0xCB, 0xAC]
  | .res5L => [0xCB, 0xAD]
  | .res5MemHL => [0xCB, 0xAE]
  | .res5A => [0xCB, 0xAF]
  | .res6B => [0xCB, 0xB0]
  | .res6C => [0xCB, 0xB1]
  | .res6D => [0xCB, 0xB2]
  | .res6E => [0xCB, 0xB3]
  | .res6H => [0xCB, 0xB4]
  | .res6L => [0xCB, 0xB5]
  | .res6MemHL => [0xCB, 0xB6]
  | .res6A => [0xCB, 0xB7]
  | .res7B => [0xCB, 0xB8]
  | .res7C => [0xCB, 0xB9]
  | .res7D => [0xCB, 0xBA]
  | .res7E => [0xCB, 0xBB]
  | .res7H => [0xCB, 0xBC]
  | .res7L => [0xCB, 0xBD]
  | .res7MemHL => [0xCB, 0xBE]
  | .res7A => [0xCB, 0xBF]
  | .set0B => [0xCB, 0xC0]
  | .set0C => [0xCB, 0xC1]
  | .set0D => [0xCB, 0xC2]
  | .set0E => [0xCB, 0xC3]
  | .set0H => [0xCB, 0xC4]
  | .set0L => [0xCB, 0xC5]
  | .set0MemHL => [0xCB, 0xC6]
  | .set0A => [0xCB, 0xC7]
  | .set1B => [0xCB, 0xC8]
  | .set1C => [0xCB, 0xC9]
  | .set1D => [0xCB, 0xCA]
  | .set1E => [0xCB, 0xCB]
  | .set1H => [0xCB, 0xCC]
  | .set1L => [0xCB, 0xCD]
  | .set1MemHL => [0xCB, 0xCE]
  | .set1A => [0xCB, 0xCF]
  | .set2B => [0xCB, 0xD0]
  | .set2C => [0xCB, 0xD1]
  | .set2D => [0xCB, 0xD2]
  | .set2E => [0xCB, 0xD3]
  | .set2H => [0xCB, 0xD4]
  | .set2L => [0xCB, 0xD5]
  | .set2MemHL => [0xCB, 0xD6]
  | .set2A => [0xCB, 0xD7]
  | .set3B => [0xCB, 0xD8]
  | .set3C => [0xCB, 0xD9]
  | .set3D => [0xCB, 0xDA]
  | .set3E => [0xCB, 0xDB]
  | .set3H => [0xCB, 0xDC]
  | .set3L => [0xCB, 0xDD]
  | .set3MemHL => [0xCB, 0xDE]
  | .set3A => [0xCB, 0xDF]
  | .set4B => [0xCB, 0xE0]
  | .set4C => [0xCB, 0xE1]
  | .set4D => [0xCB, 0xE2]
  | .set4E => [0xCB, 0xE3]
  | .set4H => [0xCB, 0xE4]
  | .set4L => [0xCB, 0xE5]
  | .set4MemHL => [0xCB, 0xE6]
  | .set4A => [0xCB, 0xE7]
  | .set5B => [0xCB, 0xE8]
  | .set5C => [0xCB, 0xE9]
  | .set5D => [0xCB, 0xEA]
  | .set5E => [0xCB, 0xEB]
  | .set5H => [0xCB, 0xEC]
  | .set5L => [0xCB, 0xED]
  | .set5MemHL => [0xCB, 0xEE]
  | .set5A => [0xCB, 0xEF]
  | .set6B => [0xCB, 0xF0]
  | .set6C => [0xCB, 0xF1]
  | .set6D => [0xCB, 0xF2]
  | .set6E => [0xCB, 0xF3]
  | .set6H => [0xCB, 0xF4]
  | .set6L => [0xCB, 0xF5]
  | .set6MemHL => [0xCB, 0xF6]
  | .set6A => [0xCB, 0xF7]
  | .set7B => [0xCB, 0xF8]
  | .set7C => [0xCB, 0xF9]
  | .set7D => [0xCB, 0xFA]
  | .set7E => [0xCB, 0xFB]
  | .set7H => [0xCB, 0xFC]
  | .set7L => [0xCB, 0xFD]
  | .set7MemHL => [0xCB, 0xFE]
  | .set7A => [0xCB, 0xFF]

/-! ### The rows of the table -/

/-- A register a descriptor names: an 8-bit slot or a 16-bit register (R320). -/
inductive AnyReg where
  | a | b | c | d | e | h | l | af | bc | de | hl | sp
  deriving DecidableEq, Repr

/-- The descriptors a source may be (R320). -/
inductive SourceDescriptor where
  | imm8 | imm16 | reg (r : AnyReg) | ind (rr : IndReg) | indhiC | ind16 | indhi8
  deriving DecidableEq, Repr

/-- The descriptors a target may be: an immediate is never one (R323, R1203). -/
inductive TargetDescriptor where
  | reg (r : AnyReg) | ind (rr : IndReg) | indhiC | ind16 | indhi8
  deriving DecidableEq, Repr

/-- A row of the opcode table (R321): descriptors, sources before targets (R320), length in bytes, the
base cost and, for a conditional row, the cost when the condition does not hold (R423). -/
structure Row where
  sources : List SourceDescriptor
  targets : List TargetDescriptor
  length : Nat
  cycles : Nat
  cyclesNotTaken : Option Nat
  deriving DecidableEq, Repr

/-- A row of the table. -/
def row (sources : List SourceDescriptor) (targets : List TargetDescriptor) (length cycles : Nat)
    (cyclesNotTaken : Option Nat := none) : Row :=
  { sources, targets, length, cycles, cyclesNotTaken }

/-- The row of each instruction (R321). A row the table gives no cost to has cost 0 here: the
unassigned bytes, and the prefix, which has no cost of its own (R1101). -/
def tableRow (i : Instr) : Row :=
  match i with
  | .nop => row [] [] 1 1
  | .ldBCN16 _ => row [.imm16] [.reg .bc] 3 3
  | .ldMemBCA => row [.reg .a] [.ind .bc] 1 2
  | .incBC => row [.reg .bc] [.reg .bc] 1 2
  | .incB => row [.reg .b] [.reg .b] 1 1
  | .decB => row [.reg .b] [.reg .b] 1 1
  | .ldBN8 _ => row [.imm8] [.reg .b] 2 2
  | .rlca => row [.reg .a] [.reg .a] 1 1
  | .ldMemA16SP _ => row [.reg .sp] [.ind16] 3 5
  | .addHLBC => row [.reg .bc] [.reg .hl] 1 2
  | .ldAMemBC => row [.ind .bc] [.reg .a] 1 2
  | .decBC => row [.reg .bc] [.reg .bc] 1 2
  | .incC => row [.reg .c] [.reg .c] 1 1
  | .decC => row [.reg .c] [.reg .c] 1 1
  | .ldCN8 _ => row [.imm8] [.reg .c] 2 2
  | .rrca => row [.reg .a] [.reg .a] 1 1
  | .stop => row [] [] 2 1
  | .ldDEN16 _ => row [.imm16] [.reg .de] 3 3
  | .ldMemDEA => row [.reg .a] [.ind .de] 1 2
  | .incDE => row [.reg .de] [.reg .de] 1 2
  | .incD => row [.reg .d] [.reg .d] 1 1
  | .decD => row [.reg .d] [.reg .d] 1 1
  | .ldDN8 _ => row [.imm8] [.reg .d] 2 2
  | .rla => row [.reg .a] [.reg .a] 1 1
  | .jrE8 _ => row [.imm8] [] 2 3
  | .addHLDE => row [.reg .de] [.reg .hl] 1 2
  | .ldAMemDE => row [.ind .de] [.reg .a] 1 2
  | .decDE => row [.reg .de] [.reg .de] 1 2
  | .incE => row [.reg .e] [.reg .e] 1 1
  | .decE => row [.reg .e] [.reg .e] 1 1
  | .ldEN8 _ => row [.imm8] [.reg .e] 2 2
  | .rra => row [.reg .a] [.reg .a] 1 1
  | .jrNZE8 _ => row [.imm8] [] 2 3 (some 2)
  | .ldHLN16 _ => row [.imm16] [.reg .hl] 3 3
  | .ldMemHLIncA => row [.reg .a] [.ind .hl] 1 2
  | .incHL => row [.reg .hl] [.reg .hl] 1 2
  | .incH => row [.reg .h] [.reg .h] 1 1
  | .decH => row [.reg .h] [.reg .h] 1 1
  | .ldHN8 _ => row [.imm8] [.reg .h] 2 2
  | .daa => row [.reg .a] [.reg .a] 1 1
  | .jrZE8 _ => row [.imm8] [] 2 3 (some 2)
  | .addHLHL => row [.reg .hl] [.reg .hl] 1 2
  | .ldAMemHLInc => row [.ind .hl] [.reg .a] 1 2
  | .decHL => row [.reg .hl] [.reg .hl] 1 2
  | .incL => row [.reg .l] [.reg .l] 1 1
  | .decL => row [.reg .l] [.reg .l] 1 1
  | .ldLN8 _ => row [.imm8] [.reg .l] 2 2
  | .cpl => row [.reg .a] [.reg .a] 1 1
  | .jrNCE8 _ => row [.imm8] [] 2 3 (some 2)
  | .ldSPN16 _ => row [.imm16] [.reg .sp] 3 3
  | .ldMemHLDecA => row [.reg .a] [.ind .hl] 1 2
  | .incSP => row [.reg .sp] [.reg .sp] 1 2
  | .incMemHL => row [.ind .hl] [.ind .hl] 1 3
  | .decMemHL => row [.ind .hl] [.ind .hl] 1 3
  | .ldMemHLN8 _ => row [.imm8] [.ind .hl] 2 3
  | .scf => row [] [] 1 1
  | .jrCE8 _ => row [.imm8] [] 2 3 (some 2)
  | .addHLSP => row [.reg .sp] [.reg .hl] 1 2
  | .ldAMemHLDec => row [.ind .hl] [.reg .a] 1 2
  | .decSP => row [.reg .sp] [.reg .sp] 1 2
  | .incA => row [.reg .a] [.reg .a] 1 1
  | .decA => row [.reg .a] [.reg .a] 1 1
  | .ldAN8 _ => row [.imm8] [.reg .a] 2 2
  | .ccf => row [] [] 1 1
  | .ldBB => row [.reg .b] [.reg .b] 1 1
  | .ldBC => row [.reg .c] [.reg .b] 1 1
  | .ldBD => row [.reg .d] [.reg .b] 1 1
  | .ldBE => row [.reg .e] [.reg .b] 1 1
  | .ldBH => row [.reg .h] [.reg .b] 1 1
  | .ldBL => row [.reg .l] [.reg .b] 1 1
  | .ldBMemHL => row [.ind .hl] [.reg .b] 1 2
  | .ldBA => row [.reg .a] [.reg .b] 1 1
  | .ldCB => row [.reg .b] [.reg .c] 1 1
  | .ldCC => row [.reg .c] [.reg .c] 1 1
  | .ldCD => row [.reg .d] [.reg .c] 1 1
  | .ldCE => row [.reg .e] [.reg .c] 1 1
  | .ldCH => row [.reg .h] [.reg .c] 1 1
  | .ldCL => row [.reg .l] [.reg .c] 1 1
  | .ldCMemHL => row [.ind .hl] [.reg .c] 1 2
  | .ldCA => row [.reg .a] [.reg .c] 1 1
  | .ldDB => row [.reg .b] [.reg .d] 1 1
  | .ldDC => row [.reg .c] [.reg .d] 1 1
  | .ldDD => row [.reg .d] [.reg .d] 1 1
  | .ldDE => row [.reg .e] [.reg .d] 1 1
  | .ldDH => row [.reg .h] [.reg .d] 1 1
  | .ldDL => row [.reg .l] [.reg .d] 1 1
  | .ldDMemHL => row [.ind .hl] [.reg .d] 1 2
  | .ldDA => row [.reg .a] [.reg .d] 1 1
  | .ldEB => row [.reg .b] [.reg .e] 1 1
  | .ldEC => row [.reg .c] [.reg .e] 1 1
  | .ldED => row [.reg .d] [.reg .e] 1 1
  | .ldEE => row [.reg .e] [.reg .e] 1 1
  | .ldEH => row [.reg .h] [.reg .e] 1 1
  | .ldEL => row [.reg .l] [.reg .e] 1 1
  | .ldEMemHL => row [.ind .hl] [.reg .e] 1 2
  | .ldEA => row [.reg .a] [.reg .e] 1 1
  | .ldHB => row [.reg .b] [.reg .h] 1 1
  | .ldHC => row [.reg .c] [.reg .h] 1 1
  | .ldHD => row [.reg .d] [.reg .h] 1 1
  | .ldHE => row [.reg .e] [.reg .h] 1 1
  | .ldHH => row [.reg .h] [.reg .h] 1 1
  | .ldHL => row [.reg .l] [.reg .h] 1 1
  | .ldHMemHL => row [.ind .hl] [.reg .h] 1 2
  | .ldHA => row [.reg .a] [.reg .h] 1 1
  | .ldLB => row [.reg .b] [.reg .l] 1 1
  | .ldLC => row [.reg .c] [.reg .l] 1 1
  | .ldLD => row [.reg .d] [.reg .l] 1 1
  | .ldLE => row [.reg .e] [.reg .l] 1 1
  | .ldLH => row [.reg .h] [.reg .l] 1 1
  | .ldLL => row [.reg .l] [.reg .l] 1 1
  | .ldLMemHL => row [.ind .hl] [.reg .l] 1 2
  | .ldLA => row [.reg .a] [.reg .l] 1 1
  | .ldMemHLB => row [.reg .b] [.ind .hl] 1 2
  | .ldMemHLC => row [.reg .c] [.ind .hl] 1 2
  | .ldMemHLD => row [.reg .d] [.ind .hl] 1 2
  | .ldMemHLE => row [.reg .e] [.ind .hl] 1 2
  | .ldMemHLH => row [.reg .h] [.ind .hl] 1 2
  | .ldMemHLL => row [.reg .l] [.ind .hl] 1 2
  | .halt => row [] [] 1 1
  | .ldMemHLA => row [.reg .a] [.ind .hl] 1 2
  | .ldAB => row [.reg .b] [.reg .a] 1 1
  | .ldAC => row [.reg .c] [.reg .a] 1 1
  | .ldAD => row [.reg .d] [.reg .a] 1 1
  | .ldAE => row [.reg .e] [.reg .a] 1 1
  | .ldAH => row [.reg .h] [.reg .a] 1 1
  | .ldAL => row [.reg .l] [.reg .a] 1 1
  | .ldAMemHL => row [.ind .hl] [.reg .a] 1 2
  | .ldAA => row [.reg .a] [.reg .a] 1 1
  | .addAB => row [.reg .b] [] 1 1
  | .addAC => row [.reg .c] [] 1 1
  | .addAD => row [.reg .d] [] 1 1
  | .addAE => row [.reg .e] [] 1 1
  | .addAH => row [.reg .h] [] 1 1
  | .addAL => row [.reg .l] [] 1 1
  | .addAMemHL => row [.ind .hl] [] 1 2
  | .addAA => row [.reg .a] [] 1 1
  | .adcAB => row [.reg .b] [] 1 1
  | .adcAC => row [.reg .c] [] 1 1
  | .adcAD => row [.reg .d] [] 1 1
  | .adcAE => row [.reg .e] [] 1 1
  | .adcAH => row [.reg .h] [] 1 1
  | .adcAL => row [.reg .l] [] 1 1
  | .adcAMemHL => row [.ind .hl] [] 1 2
  | .adcAA => row [.reg .a] [] 1 1
  | .subB => row [.reg .b] [] 1 1
  | .subC => row [.reg .c] [] 1 1
  | .subD => row [.reg .d] [] 1 1
  | .subE => row [.reg .e] [] 1 1
  | .subH => row [.reg .h] [] 1 1
  | .subL => row [.reg .l] [] 1 1
  | .subMemHL => row [.ind .hl] [] 1 2
  | .subA => row [.reg .a] [] 1 1
  | .sbcAB => row [.reg .b] [] 1 1
  | .sbcAC => row [.reg .c] [] 1 1
  | .sbcAD => row [.reg .d] [] 1 1
  | .sbcAE => row [.reg .e] [] 1 1
  | .sbcAH => row [.reg .h] [] 1 1
  | .sbcAL => row [.reg .l] [] 1 1
  | .sbcAMemHL => row [.ind .hl] [] 1 2
  | .sbcAA => row [.reg .a] [] 1 1
  | .andB => row [.reg .b] [] 1 1
  | .andC => row [.reg .c] [] 1 1
  | .andD => row [.reg .d] [] 1 1
  | .andE => row [.reg .e] [] 1 1
  | .andH => row [.reg .h] [] 1 1
  | .andL => row [.reg .l] [] 1 1
  | .andMemHL => row [.ind .hl] [] 1 2
  | .andA => row [.reg .a] [] 1 1
  | .xorB => row [.reg .b] [] 1 1
  | .xorC => row [.reg .c] [] 1 1
  | .xorD => row [.reg .d] [] 1 1
  | .xorE => row [.reg .e] [] 1 1
  | .xorH => row [.reg .h] [] 1 1
  | .xorL => row [.reg .l] [] 1 1
  | .xorMemHL => row [.ind .hl] [] 1 2
  | .xorA => row [.reg .a] [] 1 1
  | .orB => row [.reg .b] [] 1 1
  | .orC => row [.reg .c] [] 1 1
  | .orD => row [.reg .d] [] 1 1
  | .orE => row [.reg .e] [] 1 1
  | .orH => row [.reg .h] [] 1 1
  | .orL => row [.reg .l] [] 1 1
  | .orMemHL => row [.ind .hl] [] 1 2
  | .orA => row [.reg .a] [] 1 1
  | .cpB => row [.reg .b] [] 1 1
  | .cpC => row [.reg .c] [] 1 1
  | .cpD => row [.reg .d] [] 1 1
  | .cpE => row [.reg .e] [] 1 1
  | .cpH => row [.reg .h] [] 1 1
  | .cpL => row [.reg .l] [] 1 1
  | .cpMemHL => row [.ind .hl] [] 1 2
  | .cpA => row [.reg .a] [] 1 1
  | .retNZ => row [] [] 1 5 (some 2)
  | .popBC => row [] [.reg .bc] 1 3
  | .jpNZA16 _ => row [.imm16] [] 3 4 (some 3)
  | .jpA16 _ => row [.imm16] [] 3 4
  | .callNZA16 _ => row [.imm16] [] 3 6 (some 3)
  | .pushBC => row [.reg .bc] [] 1 4
  | .addAN8 _ => row [.imm8] [] 2 2
  | .rst00 => row [] [] 1 4
  | .retZ => row [] [] 1 5 (some 2)
  | .ret => row [] [] 1 4
  | .jpZA16 _ => row [.imm16] [] 3 4 (some 3)
  | .prefixCB _ => row [] [] 2 0
  | .callZA16 _ => row [.imm16] [] 3 6 (some 3)
  | .callA16 _ => row [.imm16] [] 3 6
  | .adcAN8 _ => row [.imm8] [] 2 2
  | .rst08 => row [] [] 1 4
  | .retNC => row [] [] 1 5 (some 2)
  | .popDE => row [] [.reg .de] 1 3
  | .jpNCA16 _ => row [.imm16] [] 3 4 (some 3)
  | .unassigned _ => row [] [] 1 0
  | .callNCA16 _ => row [.imm16] [] 3 6 (some 3)
  | .pushDE => row [.reg .de] [] 1 4
  | .subN8 _ => row [.imm8] [] 2 2
  | .rst10 => row [] [] 1 4
  | .retC => row [] [] 1 5 (some 2)
  | .reti => row [] [] 1 4
  | .jpCA16 _ => row [.imm16] [] 3 4 (some 3)
  | .callCA16 _ => row [.imm16] [] 3 6 (some 3)
  | .sbcAN8 _ => row [.imm8] [] 2 2
  | .rst18 => row [] [] 1 4
  | .ldhMemA8A _ => row [.reg .a] [.indhi8] 2 3
  | .popHL => row [] [.reg .hl] 1 3
  | .ldMemCA => row [.reg .a] [.indhiC] 1 2
  | .pushHL => row [.reg .hl] [] 1 4
  | .andN8 _ => row [.imm8] [] 2 2
  | .rst20 => row [] [] 1 4
  | .addSPE8 _ => row [.imm8] [.reg .sp] 2 4
  | .jpHL => row [.reg .hl] [] 1 1
  | .ldMemA16A _ => row [.reg .a] [.ind16] 3 4
  | .xorN8 _ => row [.imm8] [] 2 2
  | .rst28 => row [] [] 1 4
  | .ldhAMemA8 _ => row [.indhi8] [.reg .a] 2 3
  | .popAF => row [] [.reg .af] 1 3
  | .ldAMemC => row [.indhiC] [.reg .a] 1 2
  | .di => row [] [] 1 1
  | .pushAF => row [.reg .af] [] 1 4
  | .orN8 _ => row [.imm8] [] 2 2
  | .rst30 => row [] [] 1 4
  | .ldHLSPE8 _ => row [.imm8] [.reg .hl] 2 3
  | .ldSPHL => row [.reg .hl] [.reg .sp] 1 2
  | .ldAMemA16 _ => row [.ind16] [.reg .a] 3 4
  | .ei => row [] [] 1 1
  | .cpN8 _ => row [.imm8] [] 2 2
  | .rst38 => row [] [] 1 4
  | .rlcB => row [.reg .b] [.reg .b] 2 2
  | .rlcC => row [.reg .c] [.reg .c] 2 2
  | .rlcD => row [.reg .d] [.reg .d] 2 2
  | .rlcE => row [.reg .e] [.reg .e] 2 2
  | .rlcH => row [.reg .h] [.reg .h] 2 2
  | .rlcL => row [.reg .l] [.reg .l] 2 2
  | .rlcMemHL => row [.ind .hl] [.ind .hl] 2 4
  | .rlcA => row [.reg .a] [.reg .a] 2 2
  | .rrcB => row [.reg .b] [.reg .b] 2 2
  | .rrcC => row [.reg .c] [.reg .c] 2 2
  | .rrcD => row [.reg .d] [.reg .d] 2 2
  | .rrcE => row [.reg .e] [.reg .e] 2 2
  | .rrcH => row [.reg .h] [.reg .h] 2 2
  | .rrcL => row [.reg .l] [.reg .l] 2 2
  | .rrcMemHL => row [.ind .hl] [.ind .hl] 2 4
  | .rrcA => row [.reg .a] [.reg .a] 2 2
  | .rlB => row [.reg .b] [.reg .b] 2 2
  | .rlC => row [.reg .c] [.reg .c] 2 2
  | .rlD => row [.reg .d] [.reg .d] 2 2
  | .rlE => row [.reg .e] [.reg .e] 2 2
  | .rlH => row [.reg .h] [.reg .h] 2 2
  | .rlL => row [.reg .l] [.reg .l] 2 2
  | .rlMemHL => row [.ind .hl] [.ind .hl] 2 4
  | .rlA => row [.reg .a] [.reg .a] 2 2
  | .rrB => row [.reg .b] [.reg .b] 2 2
  | .rrC => row [.reg .c] [.reg .c] 2 2
  | .rrD => row [.reg .d] [.reg .d] 2 2
  | .rrE => row [.reg .e] [.reg .e] 2 2
  | .rrH => row [.reg .h] [.reg .h] 2 2
  | .rrL => row [.reg .l] [.reg .l] 2 2
  | .rrMemHL => row [.ind .hl] [.ind .hl] 2 4
  | .rrA => row [.reg .a] [.reg .a] 2 2
  | .slaB => row [.reg .b] [.reg .b] 2 2
  | .slaC => row [.reg .c] [.reg .c] 2 2
  | .slaD => row [.reg .d] [.reg .d] 2 2
  | .slaE => row [.reg .e] [.reg .e] 2 2
  | .slaH => row [.reg .h] [.reg .h] 2 2
  | .slaL => row [.reg .l] [.reg .l] 2 2
  | .slaMemHL => row [.ind .hl] [.ind .hl] 2 4
  | .slaA => row [.reg .a] [.reg .a] 2 2
  | .sraB => row [.reg .b] [.reg .b] 2 2
  | .sraC => row [.reg .c] [.reg .c] 2 2
  | .sraD => row [.reg .d] [.reg .d] 2 2
  | .sraE => row [.reg .e] [.reg .e] 2 2
  | .sraH => row [.reg .h] [.reg .h] 2 2
  | .sraL => row [.reg .l] [.reg .l] 2 2
  | .sraMemHL => row [.ind .hl] [.ind .hl] 2 4
  | .sraA => row [.reg .a] [.reg .a] 2 2
  | .swapB => row [.reg .b] [.reg .b] 2 2
  | .swapC => row [.reg .c] [.reg .c] 2 2
  | .swapD => row [.reg .d] [.reg .d] 2 2
  | .swapE => row [.reg .e] [.reg .e] 2 2
  | .swapH => row [.reg .h] [.reg .h] 2 2
  | .swapL => row [.reg .l] [.reg .l] 2 2
  | .swapMemHL => row [.ind .hl] [.ind .hl] 2 4
  | .swapA => row [.reg .a] [.reg .a] 2 2
  | .srlB => row [.reg .b] [.reg .b] 2 2
  | .srlC => row [.reg .c] [.reg .c] 2 2
  | .srlD => row [.reg .d] [.reg .d] 2 2
  | .srlE => row [.reg .e] [.reg .e] 2 2
  | .srlH => row [.reg .h] [.reg .h] 2 2
  | .srlL => row [.reg .l] [.reg .l] 2 2
  | .srlMemHL => row [.ind .hl] [.ind .hl] 2 4
  | .srlA => row [.reg .a] [.reg .a] 2 2
  | .bit0B => row [.reg .b] [] 2 2
  | .bit0C => row [.reg .c] [] 2 2
  | .bit0D => row [.reg .d] [] 2 2
  | .bit0E => row [.reg .e] [] 2 2
  | .bit0H => row [.reg .h] [] 2 2
  | .bit0L => row [.reg .l] [] 2 2
  | .bit0MemHL => row [.ind .hl] [] 2 3
  | .bit0A => row [.reg .a] [] 2 2
  | .bit1B => row [.reg .b] [] 2 2
  | .bit1C => row [.reg .c] [] 2 2
  | .bit1D => row [.reg .d] [] 2 2
  | .bit1E => row [.reg .e] [] 2 2
  | .bit1H => row [.reg .h] [] 2 2
  | .bit1L => row [.reg .l] [] 2 2
  | .bit1MemHL => row [.ind .hl] [] 2 3
  | .bit1A => row [.reg .a] [] 2 2
  | .bit2B => row [.reg .b] [] 2 2
  | .bit2C => row [.reg .c] [] 2 2
  | .bit2D => row [.reg .d] [] 2 2
  | .bit2E => row [.reg .e] [] 2 2
  | .bit2H => row [.reg .h] [] 2 2
  | .bit2L => row [.reg .l] [] 2 2
  | .bit2MemHL => row [.ind .hl] [] 2 3
  | .bit2A => row [.reg .a] [] 2 2
  | .bit3B => row [.reg .b] [] 2 2
  | .bit3C => row [.reg .c] [] 2 2
  | .bit3D => row [.reg .d] [] 2 2
  | .bit3E => row [.reg .e] [] 2 2
  | .bit3H => row [.reg .h] [] 2 2
  | .bit3L => row [.reg .l] [] 2 2
  | .bit3MemHL => row [.ind .hl] [] 2 3
  | .bit3A => row [.reg .a] [] 2 2
  | .bit4B => row [.reg .b] [] 2 2
  | .bit4C => row [.reg .c] [] 2 2
  | .bit4D => row [.reg .d] [] 2 2
  | .bit4E => row [.reg .e] [] 2 2
  | .bit4H => row [.reg .h] [] 2 2
  | .bit4L => row [.reg .l] [] 2 2
  | .bit4MemHL => row [.ind .hl] [] 2 3
  | .bit4A => row [.reg .a] [] 2 2
  | .bit5B => row [.reg .b] [] 2 2
  | .bit5C => row [.reg .c] [] 2 2
  | .bit5D => row [.reg .d] [] 2 2
  | .bit5E => row [.reg .e] [] 2 2
  | .bit5H => row [.reg .h] [] 2 2
  | .bit5L => row [.reg .l] [] 2 2
  | .bit5MemHL => row [.ind .hl] [] 2 3
  | .bit5A => row [.reg .a] [] 2 2
  | .bit6B => row [.reg .b] [] 2 2
  | .bit6C => row [.reg .c] [] 2 2
  | .bit6D => row [.reg .d] [] 2 2
  | .bit6E => row [.reg .e] [] 2 2
  | .bit6H => row [.reg .h] [] 2 2
  | .bit6L => row [.reg .l] [] 2 2
  | .bit6MemHL => row [.ind .hl] [] 2 3
  | .bit6A => row [.reg .a] [] 2 2
  | .bit7B => row [.reg .b] [] 2 2
  | .bit7C => row [.reg .c] [] 2 2
  | .bit7D => row [.reg .d] [] 2 2
  | .bit7E => row [.reg .e] [] 2 2
  | .bit7H => row [.reg .h] [] 2 2
  | .bit7L => row [.reg .l] [] 2 2
  | .bit7MemHL => row [.ind .hl] [] 2 3
  | .bit7A => row [.reg .a] [] 2 2
  | .res0B => row [.reg .b] [.reg .b] 2 2
  | .res0C => row [.reg .c] [.reg .c] 2 2
  | .res0D => row [.reg .d] [.reg .d] 2 2
  | .res0E => row [.reg .e] [.reg .e] 2 2
  | .res0H => row [.reg .h] [.reg .h] 2 2
  | .res0L => row [.reg .l] [.reg .l] 2 2
  | .res0MemHL => row [.ind .hl] [.ind .hl] 2 4
  | .res0A => row [.reg .a] [.reg .a] 2 2
  | .res1B => row [.reg .b] [.reg .b] 2 2
  | .res1C => row [.reg .c] [.reg .c] 2 2
  | .res1D => row [.reg .d] [.reg .d] 2 2
  | .res1E => row [.reg .e] [.reg .e] 2 2
  | .res1H => row [.reg .h] [.reg .h] 2 2
  | .res1L => row [.reg .l] [.reg .l] 2 2
  | .res1MemHL => row [.ind .hl] [.ind .hl] 2 4
  | .res1A => row [.reg .a] [.reg .a] 2 2
  | .res2B => row [.reg .b] [.reg .b] 2 2
  | .res2C => row [.reg .c] [.reg .c] 2 2
  | .res2D => row [.reg .d] [.reg .d] 2 2
  | .res2E => row [.reg .e] [.reg .e] 2 2
  | .res2H => row [.reg .h] [.reg .h] 2 2
  | .res2L => row [.reg .l] [.reg .l] 2 2
  | .res2MemHL => row [.ind .hl] [.ind .hl] 2 4
  | .res2A => row [.reg .a] [.reg .a] 2 2
  | .res3B => row [.reg .b] [.reg .b] 2 2
  | .res3C => row [.reg .c] [.reg .c] 2 2
  | .res3D => row [.reg .d] [.reg .d] 2 2
  | .res3E => row [.reg .e] [.reg .e] 2 2
  | .res3H => row [.reg .h] [.reg .h] 2 2
  | .res3L => row [.reg .l] [.reg .l] 2 2
  | .res3MemHL => row [.ind .hl] [.ind .hl] 2 4
  | .res3A => row [.reg .a] [.reg .a] 2 2
  | .res4B => row [.reg .b] [.reg .b] 2 2
  | .res4C => row [.reg .c] [.reg .c] 2 2
  | .res4D => row [.reg .d] [.reg .d] 2 2
  | .res4E => row [.reg .e] [.reg .e] 2 2
  | .res4H => row [.reg .h] [.reg .h] 2 2
  | .res4L => row [.reg .l] [.reg .l] 2 2
  | .res4MemHL => row [.ind .hl] [.ind .hl] 2 4
  | .res4A => row [.reg .a] [.reg .a] 2 2
  | .res5B => row [.reg .b] [.reg .b] 2 2
  | .res5C => row [.reg .c] [.reg .c] 2 2
  | .res5D => row [.reg .d] [.reg .d] 2 2
  | .res5E => row [.reg .e] [.reg .e] 2 2
  | .res5H => row [.reg .h] [.reg .h] 2 2
  | .res5L => row [.reg .l] [.reg .l] 2 2
  | .res5MemHL => row [.ind .hl] [.ind .hl] 2 4
  | .res5A => row [.reg .a] [.reg .a] 2 2
  | .res6B => row [.reg .b] [.reg .b] 2 2
  | .res6C => row [.reg .c] [.reg .c] 2 2
  | .res6D => row [.reg .d] [.reg .d] 2 2
  | .res6E => row [.reg .e] [.reg .e] 2 2
  | .res6H => row [.reg .h] [.reg .h] 2 2
  | .res6L => row [.reg .l] [.reg .l] 2 2
  | .res6MemHL => row [.ind .hl] [.ind .hl] 2 4
  | .res6A => row [.reg .a] [.reg .a] 2 2
  | .res7B => row [.reg .b] [.reg .b] 2 2
  | .res7C => row [.reg .c] [.reg .c] 2 2
  | .res7D => row [.reg .d] [.reg .d] 2 2
  | .res7E => row [.reg .e] [.reg .e] 2 2
  | .res7H => row [.reg .h] [.reg .h] 2 2
  | .res7L => row [.reg .l] [.reg .l] 2 2
  | .res7MemHL => row [.ind .hl] [.ind .hl] 2 4
  | .res7A => row [.reg .a] [.reg .a] 2 2
  | .set0B => row [.reg .b] [.reg .b] 2 2
  | .set0C => row [.reg .c] [.reg .c] 2 2
  | .set0D => row [.reg .d] [.reg .d] 2 2
  | .set0E => row [.reg .e] [.reg .e] 2 2
  | .set0H => row [.reg .h] [.reg .h] 2 2
  | .set0L => row [.reg .l] [.reg .l] 2 2
  | .set0MemHL => row [.ind .hl] [.ind .hl] 2 4
  | .set0A => row [.reg .a] [.reg .a] 2 2
  | .set1B => row [.reg .b] [.reg .b] 2 2
  | .set1C => row [.reg .c] [.reg .c] 2 2
  | .set1D => row [.reg .d] [.reg .d] 2 2
  | .set1E => row [.reg .e] [.reg .e] 2 2
  | .set1H => row [.reg .h] [.reg .h] 2 2
  | .set1L => row [.reg .l] [.reg .l] 2 2
  | .set1MemHL => row [.ind .hl] [.ind .hl] 2 4
  | .set1A => row [.reg .a] [.reg .a] 2 2
  | .set2B => row [.reg .b] [.reg .b] 2 2
  | .set2C => row [.reg .c] [.reg .c] 2 2
  | .set2D => row [.reg .d] [.reg .d] 2 2
  | .set2E => row [.reg .e] [.reg .e] 2 2
  | .set2H => row [.reg .h] [.reg .h] 2 2
  | .set2L => row [.reg .l] [.reg .l] 2 2
  | .set2MemHL => row [.ind .hl] [.ind .hl] 2 4
  | .set2A => row [.reg .a] [.reg .a] 2 2
  | .set3B => row [.reg .b] [.reg .b] 2 2
  | .set3C => row [.reg .c] [.reg .c] 2 2
  | .set3D => row [.reg .d] [.reg .d] 2 2
  | .set3E => row [.reg .e] [.reg .e] 2 2
  | .set3H => row [.reg .h] [.reg .h] 2 2
  | .set3L => row [.reg .l] [.reg .l] 2 2
  | .set3MemHL => row [.ind .hl] [.ind .hl] 2 4
  | .set3A => row [.reg .a] [.reg .a] 2 2
  | .set4B => row [.reg .b] [.reg .b] 2 2
  | .set4C => row [.reg .c] [.reg .c] 2 2
  | .set4D => row [.reg .d] [.reg .d] 2 2
  | .set4E => row [.reg .e] [.reg .e] 2 2
  | .set4H => row [.reg .h] [.reg .h] 2 2
  | .set4L => row [.reg .l] [.reg .l] 2 2
  | .set4MemHL => row [.ind .hl] [.ind .hl] 2 4
  | .set4A => row [.reg .a] [.reg .a] 2 2
  | .set5B => row [.reg .b] [.reg .b] 2 2
  | .set5C => row [.reg .c] [.reg .c] 2 2
  | .set5D => row [.reg .d] [.reg .d] 2 2
  | .set5E => row [.reg .e] [.reg .e] 2 2
  | .set5H => row [.reg .h] [.reg .h] 2 2
  | .set5L => row [.reg .l] [.reg .l] 2 2
  | .set5MemHL => row [.ind .hl] [.ind .hl] 2 4
  | .set5A => row [.reg .a] [.reg .a] 2 2
  | .set6B => row [.reg .b] [.reg .b] 2 2
  | .set6C => row [.reg .c] [.reg .c] 2 2
  | .set6D => row [.reg .d] [.reg .d] 2 2
  | .set6E => row [.reg .e] [.reg .e] 2 2
  | .set6H => row [.reg .h] [.reg .h] 2 2
  | .set6L => row [.reg .l] [.reg .l] 2 2
  | .set6MemHL => row [.ind .hl] [.ind .hl] 2 4
  | .set6A => row [.reg .a] [.reg .a] 2 2
  | .set7B => row [.reg .b] [.reg .b] 2 2
  | .set7C => row [.reg .c] [.reg .c] 2 2
  | .set7D => row [.reg .d] [.reg .d] 2 2
  | .set7E => row [.reg .e] [.reg .e] 2 2
  | .set7H => row [.reg .h] [.reg .h] 2 2
  | .set7L => row [.reg .l] [.reg .l] 2 2
  | .set7MemHL => row [.ind .hl] [.ind .hl] 2 4
  | .set7A => row [.reg .a] [.reg .a] 2 2

/-! ### Fields -/

/-- The opcode byte of fields x, y and z (R302). -/
def opByte (x y z : Nat) : Byte := BitVec.ofNat 8 (64 * x + 8 * y + z)

/-- The value of an `r8` field (R303); value 6 is the byte at HL. -/
def Reg8.code : Reg8 → Nat
  | .b => 0
  | .c => 1
  | .d => 2
  | .e => 3
  | .h => 4
  | .l => 5
  | .a => 7

/-- The value of the field p for `rr` (R304). -/
def RP.code : RP → Nat
  | .bc => 0
  | .de => 1
  | .hl => 2
  | .sp => 3

/-- The value of the field p for `rr2` (R304). -/
def RP2.code : RP2 → Nat
  | .bc => 0
  | .de => 1
  | .hl => 2
  | .af => 3

/-- The value of the field cc (R305). -/
def Cond.code : Cond → Nat
  | .nz => 0
  | .z => 1
  | .nc => 2
  | .c => 3

/-- The value of the field y that selects an ALU operation (R306). -/
def AluOp.code : AluOp → Nat
  | .add => 0
  | .adc => 1
  | .sub => 2
  | .sbc => 3
  | .and => 4
  | .xor => 5
  | .or => 6
  | .cp => 7

/-- The value of the field y that selects a rotate or shift (R307). -/
def RotOp.code : RotOp → Nat
  | .rlc => 0
  | .rrc => 1
  | .rl => 2
  | .rr => 3
  | .sla => 4
  | .sra => 5
  | .swap => 6
  | .srl => 7

/-- The register a descriptor names (R320). -/
def Reg8.any : Reg8 → AnyReg
  | .b => .b
  | .c => .c
  | .d => .d
  | .e => .e
  | .h => .h
  | .l => .l
  | .a => .a

/-- The register a descriptor names (R320). -/
def RP.any : RP → AnyReg
  | .bc => .bc
  | .de => .de
  | .hl => .hl
  | .sp => .sp

/-- The register a descriptor names (R320). -/
def RP2.any : RP2 → AnyReg
  | .bc => .bc
  | .de => .de
  | .hl => .hl
  | .af => .af

/-! ### Forms: the instruction that a family's fields name -/

/-- `LD r,r'` by its fields y and z (R500, R303). -/
def ldRegReg : Reg8 → Reg8 → Instr
  | .b, .b => .ldBB
  | .b, .c => .ldBC
  | .b, .d => .ldBD
  | .b, .e => .ldBE
  | .b, .h => .ldBH
  | .b, .l => .ldBL
  | .b, .a => .ldBA
  | .c, .b => .ldCB
  | .c, .c => .ldCC
  | .c, .d => .ldCD
  | .c, .e => .ldCE
  | .c, .h => .ldCH
  | .c, .l => .ldCL
  | .c, .a => .ldCA
  | .d, .b => .ldDB
  | .d, .c => .ldDC
  | .d, .d => .ldDD
  | .d, .e => .ldDE
  | .d, .h => .ldDH
  | .d, .l => .ldDL
  | .d, .a => .ldDA
  | .e, .b => .ldEB
  | .e, .c => .ldEC
  | .e, .d => .ldED
  | .e, .e => .ldEE
  | .e, .h => .ldEH
  | .e, .l => .ldEL
  | .e, .a => .ldEA
  | .h, .b => .ldHB
  | .h, .c => .ldHC
  | .h, .d => .ldHD
  | .h, .e => .ldHE
  | .h, .h => .ldHH
  | .h, .l => .ldHL
  | .h, .a => .ldHA
  | .l, .b => .ldLB
  | .l, .c => .ldLC
  | .l, .d => .ldLD
  | .l, .e => .ldLE
  | .l, .h => .ldLH
  | .l, .l => .ldLL
  | .l, .a => .ldLA
  | .a, .b => .ldAB
  | .a, .c => .ldAC
  | .a, .d => .ldAD
  | .a, .e => .ldAE
  | .a, .h => .ldAH
  | .a, .l => .ldAL
  | .a, .a => .ldAA

/-- `LD r,n8` by its field y (R501). -/
def ldRegN8 : Reg8 → Byte → Instr
  | .b, n => .ldBN8 n
  | .c, n => .ldCN8 n
  | .d, n => .ldDN8 n
  | .e, n => .ldEN8 n
  | .h, n => .ldHN8 n
  | .l, n => .ldLN8 n
  | .a, n => .ldAN8 n

/-- `LD r,(HL)` by its field y (R502). -/
def ldRegMem : Reg8 → Instr
  | .b => .ldBMemHL
  | .c => .ldCMemHL
  | .d => .ldDMemHL
  | .e => .ldEMemHL
  | .h => .ldHMemHL
  | .l => .ldLMemHL
  | .a => .ldAMemHL

/-- `LD (HL),r` by its field z (R503). -/
def ldMemReg : Reg8 → Instr
  | .b => .ldMemHLB
  | .c => .ldMemHLC
  | .d => .ldMemHLD
  | .e => .ldMemHLE
  | .h => .ldMemHLH
  | .l => .ldMemHLL
  | .a => .ldMemHLA

/-- An ALU operation on a register, by its fields y and z (R306). -/
def aluReg : AluOp → Reg8 → Instr
  | .add, .b => .addAB
  | .add, .c => .addAC
  | .add, .d => .addAD
  | .add, .e => .addAE
  | .add, .h => .addAH
  | .add, .l => .addAL
  | .add, .a => .addAA
  | .adc, .b => .adcAB
  | .adc, .c => .adcAC
  | .adc, .d => .adcAD
  | .adc, .e => .adcAE
  | .adc, .h => .adcAH
  | .adc, .l => .adcAL
  | .adc, .a => .adcAA
  | .sub, .b => .subB
  | .sub, .c => .subC
  | .sub, .d => .subD
  | .sub, .e => .subE
  | .sub, .h => .subH
  | .sub, .l => .subL
  | .sub, .a => .subA
  | .sbc, .b => .sbcAB
  | .sbc, .c => .sbcAC
  | .sbc, .d => .sbcAD
  | .sbc, .e => .sbcAE
  | .sbc, .h => .sbcAH
  | .sbc, .l => .sbcAL
  | .sbc, .a => .sbcAA
  | .and, .b => .andB
  | .and, .c => .andC
  | .and, .d => .andD
  | .and, .e => .andE
  | .and, .h => .andH
  | .and, .l => .andL
  | .and, .a => .andA
  | .xor, .b => .xorB
  | .xor, .c => .xorC
  | .xor, .d => .xorD
  | .xor, .e => .xorE
  | .xor, .h => .xorH
  | .xor, .l => .xorL
  | .xor, .a => .xorA
  | .or, .b => .orB
  | .or, .c => .orC
  | .or, .d => .orD
  | .or, .e => .orE
  | .or, .h => .orH
  | .or, .l => .orL
  | .or, .a => .orA
  | .cp, .b => .cpB
  | .cp, .c => .cpC
  | .cp, .d => .cpD
  | .cp, .e => .cpE
  | .cp, .h => .cpH
  | .cp, .l => .cpL
  | .cp, .a => .cpA

/-- An ALU operation on the byte at HL, by its field y (R306). -/
def aluMem : AluOp → Instr
  | .add => .addAMemHL
  | .adc => .adcAMemHL
  | .sub => .subMemHL
  | .sbc => .sbcAMemHL
  | .and => .andMemHL
  | .xor => .xorMemHL
  | .or => .orMemHL
  | .cp => .cpMemHL

/-- An ALU operation on an immediate, by its field y (R306). -/
def aluN8 : AluOp → Byte → Instr
  | .add, n => .addAN8 n
  | .adc, n => .adcAN8 n
  | .sub, n => .subN8 n
  | .sbc, n => .sbcAN8 n
  | .and, n => .andN8 n
  | .xor, n => .xorN8 n
  | .or, n => .orN8 n
  | .cp, n => .cpN8 n

/-- `INC r` by its field y (R734). -/
def incReg : Reg8 → Instr
  | .b => .incB
  | .c => .incC
  | .d => .incD
  | .e => .incE
  | .h => .incH
  | .l => .incL
  | .a => .incA

/-- `DEC r` by its field y (R736). -/
def decReg : Reg8 → Instr
  | .b => .decB
  | .c => .decC
  | .d => .decD
  | .e => .decE
  | .h => .decH
  | .l => .decL
  | .a => .decA

/-- `LD rr,n16` by its field p (R600, R304). -/
def ldPairN16 : RP → Word → Instr
  | .bc, n => .ldBCN16 n
  | .de, n => .ldDEN16 n
  | .hl, n => .ldHLN16 n
  | .sp, n => .ldSPN16 n

/-- `ADD HL,rr` by its field p (R801). -/
def addHLPair : RP → Instr
  | .bc => .addHLBC
  | .de => .addHLDE
  | .hl => .addHLHL
  | .sp => .addHLSP

/-- `INC rr` by its field p (R802). -/
def incPair : RP → Instr
  | .bc => .incBC
  | .de => .incDE
  | .hl => .incHL
  | .sp => .incSP

/-- `DEC rr` by its field p (R803). -/
def decPair : RP → Instr
  | .bc => .decBC
  | .de => .decDE
  | .hl => .decHL
  | .sp => .decSP

/-- `PUSH rr2` by its field p (R610, R304). -/
def pushPair : RP2 → Instr
  | .bc => .pushBC
  | .de => .pushDE
  | .hl => .pushHL
  | .af => .pushAF

/-- `POP rr2` by its field p (R611). -/
def popPair : RP2 → Instr
  | .bc => .popBC
  | .de => .popDE
  | .hl => .popHL
  | .af => .popAF

/-- `JP cc,a16` by its field cc (R1011, R305). -/
def jpIf : Cond → Word → Instr
  | .nz, n => .jpNZA16 n
  | .z, n => .jpZA16 n
  | .nc, n => .jpNCA16 n
  | .c, n => .jpCA16 n

/-- `JR cc,e8` by its field cc (R1014). -/
def jrIf : Cond → Byte → Instr
  | .nz, e => .jrNZE8 e
  | .z, e => .jrZE8 e
  | .nc, e => .jrNCE8 e
  | .c, e => .jrCE8 e

/-- `CALL cc,a16` by its field cc (R1021). -/
def callCond : Cond → Word → Instr
  | .nz, n => .callNZA16 n
  | .z, n => .callZA16 n
  | .nc, n => .callNCA16 n
  | .c, n => .callCA16 n

/-- `RET cc` by its field cc (R1031). -/
def retCond : Cond → Instr
  | .nz => .retNZ
  | .z => .retZ
  | .nc => .retNC
  | .c => .retC

/-- `RST t` by its field y (R1040, R309). -/
def rstTo : Fin 8 → Instr
  | 0 => .rst00
  | 1 => .rst08
  | 2 => .rst10
  | 3 => .rst18
  | 4 => .rst20
  | 5 => .rst28
  | 6 => .rst30
  | 7 => .rst38

/-- An extended rotate or shift of a register, by its fields y and z (R307). -/
def rotReg : RotOp → Reg8 → Instr
  | .rlc, .b => .rlcB
  | .rlc, .c => .rlcC
  | .rlc, .d => .rlcD
  | .rlc, .e => .rlcE
  | .rlc, .h => .rlcH
  | .rlc, .l => .rlcL
  | .rlc, .a => .rlcA
  | .rrc, .b => .rrcB
  | .rrc, .c => .rrcC
  | .rrc, .d => .rrcD
  | .rrc, .e => .rrcE
  | .rrc, .h => .rrcH
  | .rrc, .l => .rrcL
  | .rrc, .a => .rrcA
  | .rl, .b => .rlB
  | .rl, .c => .rlC
  | .rl, .d => .rlD
  | .rl, .e => .rlE
  | .rl, .h => .rlH
  | .rl, .l => .rlL
  | .rl, .a => .rlA
  | .rr, .b => .rrB
  | .rr, .c => .rrC
  | .rr, .d => .rrD
  | .rr, .e => .rrE
  | .rr, .h => .rrH
  | .rr, .l => .rrL
  | .rr, .a => .rrA
  | .sla, .b => .slaB
  | .sla, .c => .slaC
  | .sla, .d => .slaD
  | .sla, .e => .slaE
  | .sla, .h => .slaH
  | .sla, .l => .slaL
  | .sla, .a => .slaA
  | .sra, .b => .sraB
  | .sra, .c => .sraC
  | .sra, .d => .sraD
  | .sra, .e => .sraE
  | .sra, .h => .sraH
  | .sra, .l => .sraL
  | .sra, .a => .sraA
  | .swap, .b => .swapB
  | .swap, .c => .swapC
  | .swap, .d => .swapD
  | .swap, .e => .swapE
  | .swap, .h => .swapH
  | .swap, .l => .swapL
  | .swap, .a => .swapA
  | .srl, .b => .srlB
  | .srl, .c => .srlC
  | .srl, .d => .srlD
  | .srl, .e => .srlE
  | .srl, .h => .srlH
  | .srl, .l => .srlL
  | .srl, .a => .srlA

/-- An extended rotate or shift of the byte at HL, by its field y (R307). -/
def rotMem : RotOp → Instr
  | .rlc => .rlcMemHL
  | .rrc => .rrcMemHL
  | .rl => .rlMemHL
  | .rr => .rrMemHL
  | .sla => .slaMemHL
  | .sra => .sraMemHL
  | .swap => .swapMemHL
  | .srl => .srlMemHL

/-- `BIT b,r` by its fields y and z (R308, R930). -/
def bitReg : Fin 8 → Reg8 → Instr
  | 0, .b => .bit0B
  | 0, .c => .bit0C
  | 0, .d => .bit0D
  | 0, .e => .bit0E
  | 0, .h => .bit0H
  | 0, .l => .bit0L
  | 0, .a => .bit0A
  | 1, .b => .bit1B
  | 1, .c => .bit1C
  | 1, .d => .bit1D
  | 1, .e => .bit1E
  | 1, .h => .bit1H
  | 1, .l => .bit1L
  | 1, .a => .bit1A
  | 2, .b => .bit2B
  | 2, .c => .bit2C
  | 2, .d => .bit2D
  | 2, .e => .bit2E
  | 2, .h => .bit2H
  | 2, .l => .bit2L
  | 2, .a => .bit2A
  | 3, .b => .bit3B
  | 3, .c => .bit3C
  | 3, .d => .bit3D
  | 3, .e => .bit3E
  | 3, .h => .bit3H
  | 3, .l => .bit3L
  | 3, .a => .bit3A
  | 4, .b => .bit4B
  | 4, .c => .bit4C
  | 4, .d => .bit4D
  | 4, .e => .bit4E
  | 4, .h => .bit4H
  | 4, .l => .bit4L
  | 4, .a => .bit4A
  | 5, .b => .bit5B
  | 5, .c => .bit5C
  | 5, .d => .bit5D
  | 5, .e => .bit5E
  | 5, .h => .bit5H
  | 5, .l => .bit5L
  | 5, .a => .bit5A
  | 6, .b => .bit6B
  | 6, .c => .bit6C
  | 6, .d => .bit6D
  | 6, .e => .bit6E
  | 6, .h => .bit6H
  | 6, .l => .bit6L
  | 6, .a => .bit6A
  | 7, .b => .bit7B
  | 7, .c => .bit7C
  | 7, .d => .bit7D
  | 7, .e => .bit7E
  | 7, .h => .bit7H
  | 7, .l => .bit7L
  | 7, .a => .bit7A

/-- `BIT b,(HL)` by its field y (R308). -/
def bitMem : Fin 8 → Instr
  | 0 => .bit0MemHL
  | 1 => .bit1MemHL
  | 2 => .bit2MemHL
  | 3 => .bit3MemHL
  | 4 => .bit4MemHL
  | 5 => .bit5MemHL
  | 6 => .bit6MemHL
  | 7 => .bit7MemHL

/-- `RES b,r` by its fields y and z (R308, R932). -/
def resReg : Fin 8 → Reg8 → Instr
  | 0, .b => .res0B
  | 0, .c => .res0C
  | 0, .d => .res0D
  | 0, .e => .res0E
  | 0, .h => .res0H
  | 0, .l => .res0L
  | 0, .a => .res0A
  | 1, .b => .res1B
  | 1, .c => .res1C
  | 1, .d => .res1D
  | 1, .e => .res1E
  | 1, .h => .res1H
  | 1, .l => .res1L
  | 1, .a => .res1A
  | 2, .b => .res2B
  | 2, .c => .res2C
  | 2, .d => .res2D
  | 2, .e => .res2E
  | 2, .h => .res2H
  | 2, .l => .res2L
  | 2, .a => .res2A
  | 3, .b => .res3B
  | 3, .c => .res3C
  | 3, .d => .res3D
  | 3, .e => .res3E
  | 3, .h => .res3H
  | 3, .l => .res3L
  | 3, .a => .res3A
  | 4, .b => .res4B
  | 4, .c => .res4C
  | 4, .d => .res4D
  | 4, .e => .res4E
  | 4, .h => .res4H
  | 4, .l => .res4L
  | 4, .a => .res4A
  | 5, .b => .res5B
  | 5, .c => .res5C
  | 5, .d => .res5D
  | 5, .e => .res5E
  | 5, .h => .res5H
  | 5, .l => .res5L
  | 5, .a => .res5A
  | 6, .b => .res6B
  | 6, .c => .res6C
  | 6, .d => .res6D
  | 6, .e => .res6E
  | 6, .h => .res6H
  | 6, .l => .res6L
  | 6, .a => .res6A
  | 7, .b => .res7B
  | 7, .c => .res7C
  | 7, .d => .res7D
  | 7, .e => .res7E
  | 7, .h => .res7H
  | 7, .l => .res7L
  | 7, .a => .res7A

/-- `RES b,(HL)` by its field y (R308). -/
def resMem : Fin 8 → Instr
  | 0 => .res0MemHL
  | 1 => .res1MemHL
  | 2 => .res2MemHL
  | 3 => .res3MemHL
  | 4 => .res4MemHL
  | 5 => .res5MemHL
  | 6 => .res6MemHL
  | 7 => .res7MemHL

/-- `SET b,r` by its fields y and z (R308, R934). -/
def setReg : Fin 8 → Reg8 → Instr
  | 0, .b => .set0B
  | 0, .c => .set0C
  | 0, .d => .set0D
  | 0, .e => .set0E
  | 0, .h => .set0H
  | 0, .l => .set0L
  | 0, .a => .set0A
  | 1, .b => .set1B
  | 1, .c => .set1C
  | 1, .d => .set1D
  | 1, .e => .set1E
  | 1, .h => .set1H
  | 1, .l => .set1L
  | 1, .a => .set1A
  | 2, .b => .set2B
  | 2, .c => .set2C
  | 2, .d => .set2D
  | 2, .e => .set2E
  | 2, .h => .set2H
  | 2, .l => .set2L
  | 2, .a => .set2A
  | 3, .b => .set3B
  | 3, .c => .set3C
  | 3, .d => .set3D
  | 3, .e => .set3E
  | 3, .h => .set3H
  | 3, .l => .set3L
  | 3, .a => .set3A
  | 4, .b => .set4B
  | 4, .c => .set4C
  | 4, .d => .set4D
  | 4, .e => .set4E
  | 4, .h => .set4H
  | 4, .l => .set4L
  | 4, .a => .set4A
  | 5, .b => .set5B
  | 5, .c => .set5C
  | 5, .d => .set5D
  | 5, .e => .set5E
  | 5, .h => .set5H
  | 5, .l => .set5L
  | 5, .a => .set5A
  | 6, .b => .set6B
  | 6, .c => .set6C
  | 6, .d => .set6D
  | 6, .e => .set6E
  | 6, .h => .set6H
  | 6, .l => .set6L
  | 6, .a => .set6A
  | 7, .b => .set7B
  | 7, .c => .set7C
  | 7, .d => .set7D
  | 7, .e => .set7E
  | 7, .h => .set7H
  | 7, .l => .set7L
  | 7, .a => .set7A

/-- `SET b,(HL)` by its field y (R308). -/
def setMem : Fin 8 → Instr
  | 0 => .set0MemHL
  | 1 => .set1MemHL
  | 2 => .set2MemHL
  | 3 => .set3MemHL
  | 4 => .set4MemHL
  | 5 => .set5MemHL
  | 6 => .set6MemHL
  | 7 => .set7MemHL

/-! ### Table words -/

/-- The bytes of a table word, lowest address first. Bit 0 is the least significant bit of the first
byte; but the table writes an extended row as the 16-bit number 0xCBNN, whose first byte in the stream
is the high one (R330), so a 16-bit word with 0xCB in its high byte alone is read that way (log entry
11). The bytes above `nbits` are zeros. -/
def tableWordBytes (nbits w : Nat) : List Byte :=
  let b0 := w % 256
  let b1 := w / 256 % 256
  let b2 := w / 65536 % 256
  if nbits = 16 ∧ b1 = 0xCB ∧ b0 ≠ 0xCB then [0xCB, BitVec.ofNat 8 b0, 0x00]
  else [BitVec.ofNat 8 b0, BitVec.ofNat 8 b1, BitVec.ofNat 8 b2]

/-- The instruction the decoder reads from a table word. -/
def decodeTableWord (nbits w : Nat) : Option Instr :=
  match decode (tableWordBytes nbits w) with
  | .ok (i, _) => some i
  | .error _ => none

end Sys2Proof
end

