-- ==== Sys2Proof/Machine/Ops.lean ====
section
/-! DEFINITION. The named operations every meaning is built from: results and their sequencing, the
checked register file (R100 to R104, R141), the memory list, the bus with its regions (R202 to R228),
instruction fetch, the stack (R10), and interrupt entry (R1212). -/
namespace Sys2Proof.Machine

/-! ### Results -/

/-- What an operation answers: a value, or the reason the session ends. -/
abbrev Result (α : Type) := Host.Outcome α Fault Refusal

/-- Statements run in the order written (R10): the second runs on what the first answered, and not at
all once the session has ended. -/
def Result.andThen {α β : Type} (x : Result α) (f : α → Result β) : Result β :=
  match x with
  | .next v => f v
  | .fault r => .fault r
  | .refused r => .refused r

/-- The session ends with a fault (R13, R433): `s` is left with that status. -/
def State.faulted (cause : FaultCause) (s : State) : State := { s with status := .faulted cause }

/-- The session ends with a refusal (R13, R1205): `s` is left with that status. -/
def State.refused (reason : Unmodelled) (s : State) : State := { s with status := .refused reason }

/-- The end of a rule: `cost <- n` (R11), which leaves `n - 1` ticks owed (R430). -/
def charge (cost : Nat) (s : State) : Result State := .next { s with remaining := cost - 1 }

/-! ### Registers -/

/-- F as a byte: Z N H C in bits 7 to 4, zeros below (R120, R121). -/
def Flags.toByte (f : Flags) : Byte :=
  BitVec.ofBool f.z ++ BitVec.ofBool f.n ++ BitVec.ofBool f.h ++ BitVec.ofBool f.c ++ 0#4

/-- What a write of a byte to F keeps: bits 7 to 4 (R121). -/
def Flags.ofByte (v : Byte) : Flags :=
  { z := v.getLsbD 7, n := v.getLsbD 6, h := v.getLsbD 5, c := v.getLsbD 4 }

/-- The slot an 8-bit register is (R101). -/
def regName : Reg8 → RegName
  | .b => .b
  | .c => .c
  | .d => .d
  | .e => .e
  | .h => .h
  | .l => .l
  | .a => .a

/-- The slots of a 16-bit register in the order a read checks them, high slot first (R102, R1202). -/
def reg16Names : Reg16 → List RegName
  | .af => [.a, .fz, .fn, .fh, .fc]
  | .bc => [.b, .c]
  | .de => [.d, .e]
  | .hl => [.h, .l]
  | .sp => [.sp]

/-- The byte an 8-bit slot holds. -/
def State.reg8 (s : State) : Reg8 → Byte
  | .b => s.b
  | .c => s.c
  | .d => s.d
  | .e => s.e
  | .h => s.h
  | .l => s.l
  | .a => s.a

/-- The word a pair or SP holds (R102, R104). -/
def State.reg16 (s : State) : Reg16 → Word
  | .af => wordOf s.a s.flags.toByte
  | .bc => wordOf s.b s.c
  | .de => wordOf s.d s.e
  | .hl => wordOf s.h s.l
  | .sp => s.sp

/-- A write reaches these slots: they are unwritten no more (R141). -/
def State.markWritten (s : State) (names : List RegName) : State :=
  { s with unwritten := s.unwritten.filter fun n => !names.contains n }

/-- `x[r] <- v` (R10). -/
def State.setReg8 (s : State) (r : Reg8) (v : Byte) : State :=
  match r with
  | .b => { s.markWritten [.b] with b := v }
  | .c => { s.markWritten [.c] with c := v }
  | .d => { s.markWritten [.d] with d := v }
  | .e => { s.markWritten [.e] with e := v }
  | .h => { s.markWritten [.h] with h := v }
  | .l => { s.markWritten [.l] with l := v }
  | .a => { s.markWritten [.a] with a := v }

/-- `x16[rr] <- v` (R10): a pair's two slots (R102), where a write to AF keeps only bits 7 to 4 of the
low byte (R121), or SP. -/
def State.setReg16 (s : State) (rr : Reg16) (v : Word) : State :=
  match rr with
  | .af => { s.markWritten [.a, .fz, .fn, .fh, .fc] with a := hiByte v, flags := Flags.ofByte (loByte v) }
  | .bc => { s.markWritten [.b, .c] with b := hiByte v, c := loByte v }
  | .de => { s.markWritten [.d, .e] with d := hiByte v, e := loByte v }
  | .hl => { s.markWritten [.h, .l] with h := hiByte v, l := loByte v }
  | .sp => { s.markWritten [.sp] with sp := v }

/-- `pc <- target` (R10). -/
def State.setPc (s : State) (target : Word) : State := { s with pc := target }

/-- A read of the named slots that would give `v`: it faults with the first of them that no write has
reached (R141, R1202). -/
def checked {α : Type} (names : List RegName) (v : α) (s : State) : Result α :=
  match names.find? fun n => s.unwritten.contains n with
  | none => .next v
  | some r => .fault (.uninitialisedRead r (s.faulted (.uninitialisedRead r)))

/-- `x[r]` (R10). -/
def readReg8 (r : Reg8) (s : State) : Result Byte := checked [regName r] (s.reg8 r) s

/-- `x16[rr]` (R10). -/
def readReg16 (rr : Reg16) (s : State) : Result Word := checked (reg16Names rr) (s.reg16 rr) s

/-- `F.Z` (R10). -/
def readZ (s : State) : Result Bool := checked [.fz] s.flags.z s

/-- `F.N` (R10). -/
def readN (s : State) : Result Bool := checked [.fn] s.flags.n s

/-- `F.H` (R10). -/
def readH (s : State) : Result Bool := checked [.fh] s.flags.h s

/-- `F.C` (R10). -/
def readC (s : State) : Result Bool := checked [.fc] s.flags.c s

/-! ### The memory list -/

/-- The canonical form: addresses strictly rising. An unlisted address holds no byte, so no entry can
equal what it reads as (log entry 6). -/
abbrev Memory.wf (m : List Host.Cell) : Prop := m.Pairwise fun x y => x.1 < y.1

/-- The byte an address holds, `none` where nothing was stored. -/
def Memory.lookup : List Host.Cell → Nat → Option Byte
  | [], _ => none
  | x :: m, a => if x.1 = a then some x.2 else Memory.lookup m a

/-- The memory after `v` is stored at `a`, in canonical form. -/
def Memory.store : List Host.Cell → Nat → Byte → List Host.Cell
  | [], a, v => [(a, v)]
  | x :: m, a, v =>
    if a < x.1 then (a, v) :: x :: m
    else if a = x.1 then (a, v) :: m
    else x :: Memory.store m a v

/-- The memory once the DMA collaborator may have written OAM: no byte of 0xFE00 to 0xFE9F is known
(R225, R241; log entry 14). -/
def Memory.forgetOam (m : List Host.Cell) : List Host.Cell :=
  m.filter fun x => !(decide (0xFE00 ≤ x.1) && decide (x.1 < 0xFEA0))

/-! ### The bus -/

/-- The ten ranges of the address map (R202). -/
inductive Region where
  | rom | vram | cartRam | wram | echo | oam | unusable | io | hram | ie
  deriving DecidableEq, Repr

/-- The six owners (R201). -/
inductive Owner where
  | rom | workingRam | videoRam | objectAttribute | ioBlock | peripheralHighRam
  deriving DecidableEq, Repr

/-- The range an address lies in (R202). -/
def region (addr : Word) : Region :=
  let n := addr.toNat
  if n < 0x8000 then .rom
  else if n < 0xA000 then .vram
  else if n < 0xC000 then .cartRam
  else if n < 0xE000 then .wram
  else if n < 0xFE00 then .echo
  else if n < 0xFEA0 then .oam
  else if n < 0xFF00 then .unusable
  else if n < 0xFF80 then .io
  else if n < 0xFFFF then .hram
  else .ie

/-- The owner of a range (R202, C4). -/
def regionOwner : Region → Owner
  | .rom => .rom
  | .vram => .videoRam
  | .cartRam => .rom
  | .wram => .workingRam
  | .echo => .workingRam
  | .oam => .objectAttribute
  | .unusable => .objectAttribute
  | .io => .ioBlock
  | .hram => .peripheralHighRam
  | .ie => .ioBlock

/-- The cell an address names: the echo range names the WRAM cell 0x2000 below it (R223). -/
def cellOf (addr : Word) : Nat :=
  match region addr with
  | .echo => addr.toNat - 0x2000
  | _ => addr.toNat

/-- The byte stored for an address, if there is one. -/
def State.stored (s : State) (addr : Word) : Option Byte := Memory.lookup s.mem (cellOf addr)

/-- The DMA window refuses an access outside HRAM (R228). -/
def State.busBlocked (s : State) (addr : Word) : Bool :=
  decide (0 < s.dmaWindow) && !decide (region addr = .hram)

/-- The byte a read that the bus admits returns, by the owner's policy (R220 to R227). -/
def State.readVal (s : State) (addr : Word) : Byte :=
  match region addr with
  | .rom => (s.stored addr).getD (Config.romByte addr)
  | .cartRam => Config.idleValue
  | .wram | .echo | .hram => (s.stored addr).getD (Config.drawByte s.draws)
  | .vram | .oam =>
    if Config.drawLocked s.draws then Config.idleValue
    else (s.stored addr).getD (Config.drawByte (s.draws + 1))
  | .unusable | .io | .ie => Config.drawByte s.draws

/-- The state after a read that the bus admits: the draws it took, and the event of a read of the I/O
block (R235). Nothing else changes. -/
def State.afterRead (s : State) (addr : Word) : State :=
  match region addr with
  | .rom | .cartRam => s
  | .wram | .echo | .hram => if (s.stored addr).isSome then s else { s with draws := s.draws + 1 }
  | .vram | .oam =>
    if Config.drawLocked s.draws || (s.stored addr).isSome then { s with draws := s.draws + 1 }
    else { s with draws := s.draws + 2 }
  | .unusable => { s with draws := s.draws + 1 }
  | .io | .ie =>
    { s with
      draws := s.draws + 1
      events := .ioRead addr (s.readVal addr) s.tick :: s.events }

/-- The state after a write that the bus admits, by the owner's policy (R221 to R227). A write to
0xFF46 also opens the DMA window (R137), in which OAM may be rewritten (R241). -/
def State.afterWrite (s : State) (addr : Word) (v : Byte) : State :=
  match region addr with
  | .rom | .cartRam | .unusable => s
  | .wram | .echo | .hram => { s with mem := Memory.store s.mem (cellOf addr) v }
  | .vram | .oam =>
    if Config.drawLocked s.draws then { s with draws := s.draws + 1 }
    else { s with draws := s.draws + 1, mem := Memory.store s.mem (cellOf addr) v }
  | .io | .ie =>
    if addr = 0xFF46#16 then
      { s with
        events := .ioWrite addr v s.tick :: s.events
        dmaWindow := Config.dmaWindow
        mem := Memory.forgetOam s.mem }
    else { s with events := .ioWrite addr v s.tick :: s.events }

/-- The refusal of an access in the DMA window (R228). -/
def dmaConflict {α : Type} (s : State) : Result α := .refused (.dmaBusConflict (s.refused .dmaBusConflict))

/-- `MemRead(a, 1)` (R210): one bus read. -/
def busRead (addr : Word) (s : State) : Result (Byte × State) :=
  if s.busBlocked addr then dmaConflict s else .next (s.readVal addr, s.afterRead addr)

/-- `MemWrite(a, 1, v)` (R211): one bus write. -/
def busWrite (addr : Word) (v : Byte) (s : State) : Result State :=
  if s.busBlocked addr then dmaConflict s else .next (s.afterWrite addr v)

/-- `MemRead(a, 2)` (R212): two bus reads, low byte first, the address wrapping. -/
def busRead16 (addr : Word) (s : State) : Result (Word × State) :=
  (busRead addr s).andThen fun (lo, s1) =>
  (busRead (addr + 1) s1).andThen fun (hi, s2) => .next (wordOf hi lo, s2)

/-- `MemWrite(a, 2, v)` (R213): two bus writes, low byte first, the address wrapping. -/
def busWrite16 (addr : Word) (v : Word) (s : State) : Result State :=
  (busWrite addr (loByte v) s).andThen fun s1 => busWrite (addr + 1) (hiByte v) s1

/-! ### Fetch and stack -/

/-- `Fetch8()` (R10): the byte at `pc`, which advances (R110). -/
def fetch8 (s : State) : Result (Byte × State) :=
  (busRead s.pc s).andThen fun (v, s1) => .next (v, s1.setPc (s1.pc + 1))

/-- `Fetch16()` (R10): two fetches, low byte first. -/
def fetch16 (s : State) : Result (Word × State) :=
  (fetch8 s).andThen fun (lo, s1) =>
  (fetch8 s1).andThen fun (hi, s2) => .next (wordOf hi lo, s2)

/-- One byte of `Push16` (R10): SP moves down by one, then the byte is written there. -/
def pushByte (v : Byte) (s : State) : Result State :=
  (readReg16 .sp s).andThen fun sp => busWrite (sp - 1) v (s.setReg16 .sp (sp - 1))

/-- `Push16(v)` (R10): the high byte first. -/
def push16 (v : Word) (s : State) : Result State :=
  (pushByte (hiByte v) s).andThen fun s1 => pushByte (loByte v) s1

/-- One byte of `Pop16` (R10): the byte at SP is read, then SP moves up by one. -/
def popByte (s : State) : Result (Byte × State) :=
  (readReg16 .sp s).andThen fun sp =>
  (busRead sp s).andThen fun (v, s1) => .next (v, s1.setReg16 .sp (sp + 1))

/-- `Pop16()` (R10): the low byte first. -/
def pop16 (s : State) : Result (Word × State) :=
  (popByte s).andThen fun (lo, s1) =>
  (popByte s1).andThen fun (hi, s2) => .next (wordOf hi lo, s2)

/-! ### Interrupts -/

/-- The vector of a source (R1231). -/
def intVector : IntSource → Word
  | .vblank => 0x0040
  | .lcdStat => 0x0048
  | .timer => 0x0050
  | .serial => 0x0058
  | .joypad => 0x0060

/-- `acknowledge_interrupt(v)` (R1210), recorded as `Ack(v, tick)`. -/
def State.acknowledge (s : State) (v : Word) : State := { s with events := .ack v s.tick :: s.events }

/-- `InterruptEntry(v)` (R1212): taking an interrupt. -/
def interruptEntry (src : IntSource) (s : State) : Result State :=
  (readReg16 .sp s).andThen fun sp =>
  if sp = 0x0000#16 ∨ sp = 0x0001#16 then
    .refused (.dispatchPushToIE (s.refused .dispatchPushToIE))
  else
    (push16 s.pc ({ s with ime := false, imeSched := false }.acknowledge (intVector src))).andThen fun s1 =>
    charge 5 (s1.setPc (intVector src))

/-- Return from an interrupt or a subroutine: `t <- Pop16(); pc <- t` (R1030, R1032). -/
def returnToCaller (s : State) : Result State :=
  (pop16 s).andThen fun (t, s1) => .next (s1.setPc t)

end Sys2Proof.Machine
end

