-- ==== Sys2Proof/Machine/Flags.lean ====
section
/-! DEFINITION. Every flag computation: the adders, subtractors and logic functions of R700 to R702,
the increments of R734 and R736, the decimal adjust of R740, the 16-bit adders of R800, the rotates and
shifts of R910, and the write of flags (R703). -/
namespace Sys2Proof.Machine

/-- What an 8-bit operation returns: `(res, z, n, h, c)`. -/
structure AluOut where
  res : Byte
  z : Bool
  n : Bool
  h : Bool
  c : Bool
  deriving DecidableEq, Repr

/-- `add8(a, b, cin)` (R700): the sum over the integers, narrowed at the end. -/
def add8 (a b : Byte) (cin : Bool) : AluOut :=
  let sum := a.toNat + b.toNat + cin.toNat
  let res := BitVec.ofNat 8 sum
  { res
    z := decide (res = 0)
    n := false
    h := decide (0x0F < lowNibble a + lowNibble b + cin.toNat)
    c := decide (0xFF < sum) }

/-- `sub8(a, b, bin)` (R701): the difference over the integers, narrowed at the end. -/
def sub8 (a b : Byte) (bin : Bool) : AluOut :=
  let diff : Int := (a.toNat : Int) - (b.toNat : Int) - (bin.toNat : Int)
  let res := BitVec.ofInt 8 diff
  { res
    z := decide (res = 0)
    n := true
    h := decide ((lowNibble a : Int) - (lowNibble b : Int) - (bin.toNat : Int) < 0)
    c := decide (diff < 0) }

/-- `and8(a, b)` (R702). -/
def and8 (a b : Byte) : AluOut :=
  { res := a &&& b, z := decide (a &&& b = 0), n := false, h := true, c := false }

/-- `xor8(a, b)` (R702). -/
def xor8 (a b : Byte) : AluOut :=
  { res := a ^^^ b, z := decide (a ^^^ b = 0), n := false, h := false, c := false }

/-- `or8(a, b)` (R702). -/
def or8 (a b : Byte) : AluOut :=
  { res := a ||| b, z := decide (a ||| b = 0), n := false, h := false, c := false }

/-- Whether an operation of R306 takes F.C as an input (R713, R719). -/
def usesCarry : AluOp → Bool
  | .adc => true
  | .sbc => true
  | .add => false
  | .sub => false
  | .and => false
  | .xor => false
  | .or => false
  | .cp => false

/-- The function of each operation of R306 on A, the operand and the carry flag (R710 to R733). -/
def aluFn (op : AluOp) (a v : Byte) (carry : Bool) : AluOut :=
  match op with
  | .add => add8 a v false
  | .adc => add8 a v carry
  | .sub => sub8 a v false
  | .sbc => sub8 a v carry
  | .and => and8 a v
  | .xor => xor8 a v
  | .or => or8 a v
  | .cp => sub8 a v false

/-- The increment of R734: `(res, Z, N, H)` as an `AluOut` whose `c` the rule does not write. -/
def inc8 (v : Byte) : AluOut :=
  { res := v + 1
    z := decide (v + 1 = 0)
    n := false
    h := decide (lowNibble v = 0x0F)
    c := false }

/-- The decrement of R736: `(res, Z, N, H)` as an `AluOut` whose `c` the rule does not write. -/
def dec8 (v : Byte) : AluOut :=
  { res := v - 1
    z := decide (v - 1 = 0)
    n := true
    h := decide (lowNibble v = 0x00)
    c := false }

/-- The decimal adjust of R740: the result and the carry flag after it. Both tests of the addition
branch use A before the adjustment. -/
def daaFn (a : Byte) (n h c : Bool) : Byte × Bool :=
  if n then
    let adj : Byte := (if c then 0x60 else 0x00) ||| (if h then 0x06 else 0x00)
    (a - adj, c)
  else
    let high := c || decide (0x99 < a.toNat)
    let low := h || decide (0x09 < lowNibble a)
    let adj : Byte := (if high then 0x60 else 0x00) ||| (if low then 0x06 else 0x00)
    (a + adj, high)

/-- `add16(a, b)` (R800): the sum, the carry out of bit 11 and the carry out of bit 15. -/
def add16 (a b : Word) : Word × Bool × Bool :=
  let sum := a.toNat + b.toNat
  (BitVec.ofNat 16 sum,
    decide (0x0FFF < (a &&& 0x0FFF#16).toNat + (b &&& 0x0FFF#16).toNat),
    decide (0xFFFF < sum))

/-- `sp_add(sp, e)` (R800, C1): `e` is signed in the sum and unsigned in both flag sums. -/
def spAdd (sp : Word) (e : Byte) : Word × Bool × Bool :=
  (sp + sext16 e,
    decide (0x0F < (sp &&& 0x000F#16).toNat + lowNibble e),
    decide (0xFF < (sp &&& 0x00FF#16).toNat + e.toNat))

/-- Bit `k` of a byte, as a byte 0 or 1. -/
def bitByte (v : Byte) (k : Nat) : Byte := (BitVec.ofBool (v.getLsbD k)).zeroExtend 8

/-- The functions of R910, `(res, c)`; RL and RR take the carry flag in. -/
def rotFn (op : RotOp) (v : Byte) (cin : Bool) : Byte × Bool :=
  match op with
  | .rlc => ((v <<< 1) ||| bitByte v 7, v.getLsbD 7)
  | .rrc => ((v >>> 1) ||| (bitByte v 0 <<< 7), v.getLsbD 0)
  | .rl => ((v <<< 1) ||| (BitVec.ofBool cin).zeroExtend 8, v.getLsbD 7)
  | .rr => ((v >>> 1) ||| ((BitVec.ofBool cin).zeroExtend 8 <<< 7), v.getLsbD 0)
  | .sla => (v <<< 1, v.getLsbD 7)
  | .sra => ((v >>> 1) ||| (v &&& 0x80#8), v.getLsbD 0)
  | .swap => (((v &&& 0x0F#8) <<< 4) ||| (v >>> 4), false)
  | .srl => (v >>> 1, v.getLsbD 0)

/-- Whether a rotate takes F.C as an input (R910). -/
def rotUsesCarry : RotOp → Bool
  | .rl => true
  | .rr => true
  | .rlc => false
  | .rrc => false
  | .sla => false
  | .sra => false
  | .swap => false
  | .srl => false

/-- The byte with bit `b` alone set: `1 << b`. -/
def bitMask (b : Fin 8) : Byte := 1#8 <<< b.val

/-- One flag after a write that may leave it alone. -/
def keepOr (old : Bool) (new : Option Bool) : Bool := new.getD old

/-- The slots a flag write reaches. -/
def flagNames (z n h c : Option Bool) : List RegName :=
  (if z.isSome then [.fz] else []) ++ (if n.isSome then [.fn] else []) ++
    (if h.isSome then [.fh] else []) ++ (if c.isSome then [.fc] else [])

/-- The flag writes of a rule (R703): `none` is "unchanged". -/
def State.setFlags (s : State) (z n h c : Option Bool) : State :=
  { s.markWritten (flagNames z n h c) with
    flags :=
      { z := keepOr s.flags.z z
        n := keepOr s.flags.n n
        h := keepOr s.flags.h h
        c := keepOr s.flags.c c } }

/-- The carry flag where an operation takes it in, which only then is read (R713, R719, R915). -/
def carryIn (used : Bool) (s : State) : Result Bool := if used then readC s else .next false

/-- `cond(cc)` (R1000, R305), which reads one flag. -/
def condHolds (cc : Cond) (s : State) : Result Bool :=
  match cc with
  | .nz => (readZ s).andThen fun z => .next (!z)
  | .z => readZ s
  | .nc => (readC s).andThen fun c => .next (!c)
  | .c => readC s

/-- The condition as a function of the flags (R1000). -/
def condOf (cc : Cond) (f : Flags) : Bool :=
  match cc with
  | .nz => !f.z
  | .z => f.z
  | .nc => !f.c
  | .c => f.c

end Sys2Proof.Machine
end

