-- ==== Sys2Proof/Machine/Operands.lean ====
section
/-! DEFINITION. The Operand Resolver (R400 to R411): every operand form, resolved as a source to the
value it copies and as a target to the place it will write. The stream bytes of an immediate form
stand in the form itself, since they were fetched in order before the rule runs (R11, R410). -/
namespace Sys2Proof.Machine

/-- The 8-bit source descriptors (R320). An immediate is a source only (R323). -/
inductive Src8 where
  | imm8 (n : Byte)
  | reg (r : Reg8)
  | ind (rr : IndReg)
  | indhiC
  | ind16 (a16 : Word)
  | indhi8 (a8 : Byte)
  deriving DecidableEq, Repr

/-- The 8-bit target descriptors (R320). -/
inductive Tgt8 where
  | reg (r : Reg8)
  | ind (rr : IndReg)
  | indhiC
  | ind16 (a16 : Word)
  | indhi8 (a8 : Byte)
  deriving DecidableEq, Repr

/-- The 16-bit source descriptors (R320). -/
inductive Src16 where
  | imm16 (n : Word)
  | reg (rr : Reg16)
  deriving DecidableEq, Repr

/-- The 16-bit target descriptors (R320); `ind16` is `LD (a16),SP` only (R407). -/
inductive Tgt16 where
  | reg (rr : Reg16)
  | ind16 (a16 : Word)
  deriving DecidableEq, Repr

/-- A Writable Handle (R402): a register name or a bus address. -/
inductive Handle8 where
  | reg (r : Reg8)
  | addr (a : Word)
  deriving DecidableEq, Repr

/-- A Writable Handle of a 16-bit target (R402, R407). -/
inductive Handle16 where
  | reg (rr : Reg16)
  | addr (a : Word)
  deriving DecidableEq, Repr

/-- The 16-bit register of an Indirect-via-register descriptor (R320). -/
def indReg16 : IndReg → Reg16
  | .bc => .bc
  | .de => .de
  | .hl => .hl

/-- The address a memory source reads, from the registers of this moment (R405 to R408); `none` for a
source that reads no memory. -/
def srcAddr (src : Src8) (s : State) : Option Word :=
  match src with
  | .imm8 _ => none
  | .reg _ => none
  | .ind rr => some (s.reg16 (indReg16 rr))
  | .indhiC => some (highPage s.c)
  | .ind16 a => some a
  | .indhi8 a => some (highPage a)

/-- The address a memory target stores to, from the registers of this moment (R405 to R408); `none`
for a register target. -/
def tgtAddr (tgt : Tgt8) (s : State) : Option Word :=
  match tgt with
  | .reg _ => none
  | .ind rr => some (s.reg16 (indReg16 rr))
  | .indhiC => some (highPage s.c)
  | .ind16 a => some a
  | .indhi8 a => some (highPage a)

/-- `resolve_source` of an 8-bit descriptor (R403 to R408): the value is copied now, with the bus read
if there is one. -/
def resolveSource8 (src : Src8) (s : State) : Result (Byte × State) :=
  match src with
  | .imm8 n => .next (n, s)
  | .reg r => (readReg8 r s).andThen fun v => .next (v, s)
  | .ind rr => (readReg16 (indReg16 rr) s).andThen fun a => busRead a s
  | .indhiC => (readReg8 .c s).andThen fun c => busRead (highPage c) s
  | .ind16 a => busRead a s
  | .indhi8 a => busRead (highPage a) s

/-- `resolve_target` of an 8-bit descriptor (R404 to R408): the address is computed now, no read is
made. -/
def resolveTarget8 (tgt : Tgt8) (s : State) : Result Handle8 :=
  match tgt with
  | .reg r => .next (.reg r)
  | .ind rr => (readReg16 (indReg16 rr) s).andThen fun a => .next (.addr a)
  | .indhiC => (readReg8 .c s).andThen fun c => .next (.addr (highPage c))
  | .ind16 a => .next (.addr a)
  | .indhi8 a => .next (.addr (highPage a))

/-- The one deferred write of a handle (R402, R404, R405). -/
def writeHandle8 (h : Handle8) (v : Byte) (s : State) : Result State :=
  match h with
  | .reg r => .next (s.setReg8 r v)
  | .addr a => busWrite a v s

/-- `resolve_source` of a 16-bit descriptor (R403, R404). -/
def resolveSource16 (src : Src16) (s : State) : Result Word :=
  match src with
  | .imm16 n => .next n
  | .reg rr => readReg16 rr s

/-- `resolve_target` of a 16-bit descriptor (R404, R407). -/
def resolveTarget16 (tgt : Tgt16) : Handle16 :=
  match tgt with
  | .reg rr => .reg rr
  | .ind16 a => .addr a

/-- The one deferred write of a 16-bit handle (R404, R407). -/
def writeHandle16 (h : Handle16) (v : Word) (s : State) : Result State :=
  match h with
  | .reg rr => .next (s.setReg16 rr v)
  | .addr a => busWrite16 a v s

end Sys2Proof.Machine
end

