-- ==== Sys2Proof/Machine/Alu16.lean ====
section
/-! DEFINITION. The 16-bit arithmetic instructions (R801 to R804). -/
namespace Sys2Proof.Machine

/-- `ADD HL,rr` (R801): Z is unchanged. -/
def addHL (rr : Reg16) (cost : Nat) (s : State) : Result State :=
  (readReg16 rr s).andThen fun v =>
  (readReg16 .hl s).andThen fun hl =>
  let out := add16 hl v
  charge cost ((s.setReg16 .hl out.1).setFlags none (some false) (some out.2.1) (some out.2.2))

/-- `INC rr` and `DEC rr` (R802, R803): no flag is written. -/
def add16To (rr : Reg16) (delta : Word) (cost : Nat) (s : State) : Result State :=
  (readReg16 rr s).andThen fun v => charge cost (s.setReg16 rr (v + delta))

/-- `ADD SP,e8` (R804): Z and N become 0. -/
def addSP (e : Byte) (cost : Nat) (s : State) : Result State :=
  (readReg16 .sp s).andThen fun sp =>
  let out := spAdd sp e
  charge cost ((s.setReg16 .sp out.1).setFlags (some false) (some false) (some out.2.1) (some out.2.2))

/-- `INC BC` (0x03), R802. -/
def execIncBC (s : State) : Result State := add16To .bc 1 2 s

/-- `ADD HL,BC` (0x09), R801. -/
def execAddHLBC (s : State) : Result State := addHL .bc 2 s

/-- `DEC BC` (0x0B), R803. -/
def execDecBC (s : State) : Result State := add16To .bc (-1) 2 s

/-- `INC DE` (0x13), R802. -/
def execIncDE (s : State) : Result State := add16To .de 1 2 s

/-- `ADD HL,DE` (0x19), R801. -/
def execAddHLDE (s : State) : Result State := addHL .de 2 s

/-- `DEC DE` (0x1B), R803. -/
def execDecDE (s : State) : Result State := add16To .de (-1) 2 s

/-- `INC HL` (0x23), R802. -/
def execIncHL (s : State) : Result State := add16To .hl 1 2 s

/-- `ADD HL,HL` (0x29), R801. -/
def execAddHLHL (s : State) : Result State := addHL .hl 2 s

/-- `DEC HL` (0x2B), R803. -/
def execDecHL (s : State) : Result State := add16To .hl (-1) 2 s

/-- `INC SP` (0x33), R802. -/
def execIncSP (s : State) : Result State := add16To .sp 1 2 s

/-- `ADD HL,SP` (0x39), R801. -/
def execAddHLSP (s : State) : Result State := addHL .sp 2 s

/-- `DEC SP` (0x3B), R803. -/
def execDecSP (s : State) : Result State := add16To .sp (-1) 2 s

/-- `ADD SP,e8` (0xE8), R804. -/
def execAddSPE8 (e : Byte) (s : State) : Result State := addSP e 4 s

end Sys2Proof.Machine
end

