-- ==== Sys2Proof/Machine/Alu8.lean ====
section
/-! DEFINITION. The 8-bit arithmetic and logic instructions (R710 to R743). -/
namespace Sys2Proof.Machine

/-- Where an operation's result goes: A, but CP drops it (R731). -/
def writeAluResult (op : AluOp) (res : Byte) (s : State) : State :=
  match op with
  | .cp => s
  | .add => s.setReg8 .a res
  | .adc => s.setReg8 .a res
  | .sub => s.setReg8 .a res
  | .sbc => s.setReg8 .a res
  | .and => s.setReg8 .a res
  | .xor => s.setReg8 .a res
  | .or => s.setReg8 .a res

/-- The eight ALU operations in their three operand forms (R710 to R733): the operand is copied, then
A and, where used, the carry flag are read, then A and all four flags are written. -/
def alu8 (op : AluOp) (src : Src8) (cost : Nat) (s : State) : Result State :=
  (resolveSource8 src s).andThen fun (v, s1) =>
  (readReg8 .a s1).andThen fun a =>
  (carryIn (usesCarry op) s1).andThen fun cin =>
  let out := aluFn op a v cin
  charge cost
    ((writeAluResult op out.res s1).setFlags (some out.z) (some out.n) (some out.h) (some out.c))

/-- INC and DEC of a register or of the byte at HL (R734 to R737): the flags are those of the operation
on the old value (C2), and C is unchanged. -/
def unary8 (fn : Byte → AluOut) (src : Src8) (tgt : Tgt8) (cost : Nat) (s : State) : Result State :=
  (resolveSource8 src s).andThen fun (v, s1) =>
  (resolveTarget8 tgt s1).andThen fun h =>
  (writeHandle8 h (fn v).res s1).andThen fun s2 =>
  charge cost (s2.setFlags (some (fn v).z) (some (fn v).n) (some (fn v).h) none)

/-- `DAA` (R740): N is unchanged. -/
def decimalAdjust (cost : Nat) (s : State) : Result State :=
  (readReg8 .a s).andThen fun a =>
  (readC s).andThen fun c =>
  (readN s).andThen fun n =>
  (readH s).andThen fun h =>
  let out := daaFn a n h c
  charge cost ((s.setReg8 .a out.1).setFlags (some (decide (out.1 = 0))) none (some false) (some out.2))

/-- `CPL` (R741): Z and C are unchanged. -/
def complementA (cost : Nat) (s : State) : Result State :=
  (readReg8 .a s).andThen fun a =>
  charge cost ((s.setReg8 .a (a ^^^ 0xFF#8)).setFlags none (some true) (some true) none)

/-- `SCF` (R742): Z is unchanged. -/
def setCarry (cost : Nat) (s : State) : Result State :=
  charge cost (s.setFlags none (some false) (some false) (some true))

/-- `CCF` (R743): Z is unchanged. -/
def complementCarry (cost : Nat) (s : State) : Result State :=
  (readC s).andThen fun c => charge cost (s.setFlags none (some false) (some false) (some (!c)))

/-- `INC B` (0x04), R734. -/
def execIncB (s : State) : Result State := unary8 inc8 (.reg .b) (.reg .b) 1 s

/-- `DEC B` (0x05), R736. -/
def execDecB (s : State) : Result State := unary8 dec8 (.reg .b) (.reg .b) 1 s

/-- `INC C` (0x0C), R734. -/
def execIncC (s : State) : Result State := unary8 inc8 (.reg .c) (.reg .c) 1 s

/-- `DEC C` (0x0D), R736. -/
def execDecC (s : State) : Result State := unary8 dec8 (.reg .c) (.reg .c) 1 s

/-- `INC D` (0x14), R734. -/
def execIncD (s : State) : Result State := unary8 inc8 (.reg .d) (.reg .d) 1 s

/-- `DEC D` (0x15), R736. -/
def execDecD (s : State) : Result State := unary8 dec8 (.reg .d) (.reg .d) 1 s

/-- `INC E` (0x1C), R734. -/
def execIncE (s : State) : Result State := unary8 inc8 (.reg .e) (.reg .e) 1 s

/-- `DEC E` (0x1D), R736. -/
def execDecE (s : State) : Result State := unary8 dec8 (.reg .e) (.reg .e) 1 s

/-- `INC H` (0x24), R734. -/
def execIncH (s : State) : Result State := unary8 inc8 (.reg .h) (.reg .h) 1 s

/-- `DEC H` (0x25), R736. -/
def execDecH (s : State) : Result State := unary8 dec8 (.reg .h) (.reg .h) 1 s

/-- `DAA` (0x27), R740. -/
def execDaa (s : State) : Result State := decimalAdjust 1 s

/-- `INC L` (0x2C), R734. -/
def execIncL (s : State) : Result State := unary8 inc8 (.reg .l) (.reg .l) 1 s

/-- `DEC L` (0x2D), R736. -/
def execDecL (s : State) : Result State := unary8 dec8 (.reg .l) (.reg .l) 1 s

/-- `CPL` (0x2F), R741. -/
def execCpl (s : State) : Result State := complementA 1 s

/-- `INC (HL)` (0x34), R735. -/
def execIncMemHL (s : State) : Result State := unary8 inc8 (.ind .hl) (.ind .hl) 3 s

/-- `DEC (HL)` (0x35), R737. -/
def execDecMemHL (s : State) : Result State := unary8 dec8 (.ind .hl) (.ind .hl) 3 s

/-- `SCF` (0x37), R742. -/
def execScf (s : State) : Result State := setCarry 1 s

/-- `INC A` (0x3C), R734. -/
def execIncA (s : State) : Result State := unary8 inc8 (.reg .a) (.reg .a) 1 s

/-- `DEC A` (0x3D), R736. -/
def execDecA (s : State) : Result State := unary8 dec8 (.reg .a) (.reg .a) 1 s

/-- `CCF` (0x3F), R743. -/
def execCcf (s : State) : Result State := complementCarry 1 s

/-- `ADD A,B` (0x80), R710. -/
def execAddAB (s : State) : Result State := alu8 .add (.reg .b) 1 s

/-- `ADD A,C` (0x81), R710. -/
def execAddAC (s : State) : Result State := alu8 .add (.reg .c) 1 s

/-- `ADD A,D` (0x82), R710. -/
def execAddAD (s : State) : Result State := alu8 .add (.reg .d) 1 s

/-- `ADD A,E` (0x83), R710. -/
def execAddAE (s : State) : Result State := alu8 .add (.reg .e) 1 s

/-- `ADD A,H` (0x84), R710. -/
def execAddAH (s : State) : Result State := alu8 .add (.reg .h) 1 s

/-- `ADD A,L` (0x85), R710. -/
def execAddAL (s : State) : Result State := alu8 .add (.reg .l) 1 s

/-- `ADD A,(HL)` (0x86), R711. -/
def execAddAMemHL (s : State) : Result State := alu8 .add (.ind .hl) 2 s

/-- `ADD A,A` (0x87), R710. -/
def execAddAA (s : State) : Result State := alu8 .add (.reg .a) 1 s

/-- `ADC A,B` (0x88), R713. -/
def execAdcAB (s : State) : Result State := alu8 .adc (.reg .b) 1 s

/-- `ADC A,C` (0x89), R713. -/
def execAdcAC (s : State) : Result State := alu8 .adc (.reg .c) 1 s

/-- `ADC A,D` (0x8A), R713. -/
def execAdcAD (s : State) : Result State := alu8 .adc (.reg .d) 1 s

/-- `ADC A,E` (0x8B), R713. -/
def execAdcAE (s : State) : Result State := alu8 .adc (.reg .e) 1 s

/-- `ADC A,H` (0x8C), R713. -/
def execAdcAH (s : State) : Result State := alu8 .adc (.reg .h) 1 s

/-- `ADC A,L` (0x8D), R713. -/
def execAdcAL (s : State) : Result State := alu8 .adc (.reg .l) 1 s

/-- `ADC A,(HL)` (0x8E), R714. -/
def execAdcAMemHL (s : State) : Result State := alu8 .adc (.ind .hl) 2 s

/-- `ADC A,A` (0x8F), R713. -/
def execAdcAA (s : State) : Result State := alu8 .adc (.reg .a) 1 s

/-- `SUB B` (0x90), R716. -/
def execSubB (s : State) : Result State := alu8 .sub (.reg .b) 1 s

/-- `SUB C` (0x91), R716. -/
def execSubC (s : State) : Result State := alu8 .sub (.reg .c) 1 s

/-- `SUB D` (0x92), R716. -/
def execSubD (s : State) : Result State := alu8 .sub (.reg .d) 1 s

/-- `SUB E` (0x93), R716. -/
def execSubE (s : State) : Result State := alu8 .sub (.reg .e) 1 s

/-- `SUB H` (0x94), R716. -/
def execSubH (s : State) : Result State := alu8 .sub (.reg .h) 1 s

/-- `SUB L` (0x95), R716. -/
def execSubL (s : State) : Result State := alu8 .sub (.reg .l) 1 s

/-- `SUB (HL)` (0x96), R717. -/
def execSubMemHL (s : State) : Result State := alu8 .sub (.ind .hl) 2 s

/-- `SUB A` (0x97), R716. -/
def execSubA (s : State) : Result State := alu8 .sub (.reg .a) 1 s

/-- `SBC A,B` (0x98), R719. -/
def execSbcAB (s : State) : Result State := alu8 .sbc (.reg .b) 1 s

/-- `SBC A,C` (0x99), R719. -/
def execSbcAC (s : State) : Result State := alu8 .sbc (.reg .c) 1 s

/-- `SBC A,D` (0x9A), R719. -/
def execSbcAD (s : State) : Result State := alu8 .sbc (.reg .d) 1 s

/-- `SBC A,E` (0x9B), R719. -/
def execSbcAE (s : State) : Result State := alu8 .sbc (.reg .e) 1 s

/-- `SBC A,H` (0x9C), R719. -/
def execSbcAH (s : State) : Result State := alu8 .sbc (.reg .h) 1 s

/-- `SBC A,L` (0x9D), R719. -/
def execSbcAL (s : State) : Result State := alu8 .sbc (.reg .l) 1 s

/-- `SBC A,(HL)` (0x9E), R720. -/
def execSbcAMemHL (s : State) : Result State := alu8 .sbc (.ind .hl) 2 s

/-- `SBC A,A` (0x9F), R719. -/
def execSbcAA (s : State) : Result State := alu8 .sbc (.reg .a) 1 s

/-- `AND B` (0xA0), R722. -/
def execAndB (s : State) : Result State := alu8 .and (.reg .b) 1 s

/-- `AND C` (0xA1), R722. -/
def execAndC (s : State) : Result State := alu8 .and (.reg .c) 1 s

/-- `AND D` (0xA2), R722. -/
def execAndD (s : State) : Result State := alu8 .and (.reg .d) 1 s

/-- `AND E` (0xA3), R722. -/
def execAndE (s : State) : Result State := alu8 .and (.reg .e) 1 s

/-- `AND H` (0xA4), R722. -/
def execAndH (s : State) : Result State := alu8 .and (.reg .h) 1 s

/-- `AND L` (0xA5), R722. -/
def execAndL (s : State) : Result State := alu8 .and (.reg .l) 1 s

/-- `AND (HL)` (0xA6), R723. -/
def execAndMemHL (s : State) : Result State := alu8 .and (.ind .hl) 2 s

/-- `AND A` (0xA7), R722. -/
def execAndA (s : State) : Result State := alu8 .and (.reg .a) 1 s

/-- `XOR B` (0xA8), R725. -/
def execXorB (s : State) : Result State := alu8 .xor (.reg .b) 1 s

/-- `XOR C` (0xA9), R725. -/
def execXorC (s : State) : Result State := alu8 .xor (.reg .c) 1 s

/-- `XOR D` (0xAA), R725. -/
def execXorD (s : State) : Result State := alu8 .xor (.reg .d) 1 s

/-- `XOR E` (0xAB), R725. -/
def execXorE (s : State) : Result State := alu8 .xor (.reg .e) 1 s

/-- `XOR H` (0xAC), R725. -/
def execXorH (s : State) : Result State := alu8 .xor (.reg .h) 1 s

/-- `XOR L` (0xAD), R725. -/
def execXorL (s : State) : Result State := alu8 .xor (.reg .l) 1 s

/-- `XOR (HL)` (0xAE), R726. -/
def execXorMemHL (s : State) : Result State := alu8 .xor (.ind .hl) 2 s

/-- `XOR A` (0xAF), R725. -/
def execXorA (s : State) : Result State := alu8 .xor (.reg .a) 1 s

/-- `OR B` (0xB0), R728. -/
def execOrB (s : State) : Result State := alu8 .or (.reg .b) 1 s

/-- `OR C` (0xB1), R728. -/
def execOrC (s : State) : Result State := alu8 .or (.reg .c) 1 s

/-- `OR D` (0xB2), R728. -/
def execOrD (s : State) : Result State := alu8 .or (.reg .d) 1 s

/-- `OR E` (0xB3), R728. -/
def execOrE (s : State) : Result State := alu8 .or (.reg .e) 1 s

/-- `OR H` (0xB4), R728. -/
def execOrH (s : State) : Result State := alu8 .or (.reg .h) 1 s

/-- `OR L` (0xB5), R728. -/
def execOrL (s : State) : Result State := alu8 .or (.reg .l) 1 s

/-- `OR (HL)` (0xB6), R729. -/
def execOrMemHL (s : State) : Result State := alu8 .or (.ind .hl) 2 s

/-- `OR A` (0xB7), R728. -/
def execOrA (s : State) : Result State := alu8 .or (.reg .a) 1 s

/-- `CP B` (0xB8), R731. -/
def execCpB (s : State) : Result State := alu8 .cp (.reg .b) 1 s

/-- `CP C` (0xB9), R731. -/
def execCpC (s : State) : Result State := alu8 .cp (.reg .c) 1 s

/-- `CP D` (0xBA), R731. -/
def execCpD (s : State) : Result State := alu8 .cp (.reg .d) 1 s

/-- `CP E` (0xBB), R731. -/
def execCpE (s : State) : Result State := alu8 .cp (.reg .e) 1 s

/-- `CP H` (0xBC), R731. -/
def execCpH (s : State) : Result State := alu8 .cp (.reg .h) 1 s

/-- `CP L` (0xBD), R731. -/
def execCpL (s : State) : Result State := alu8 .cp (.reg .l) 1 s

/-- `CP (HL)` (0xBE), R732. -/
def execCpMemHL (s : State) : Result State := alu8 .cp (.ind .hl) 2 s

/-- `CP A` (0xBF), R731. -/
def execCpA (s : State) : Result State := alu8 .cp (.reg .a) 1 s

/-- `ADD A,n8` (0xC6), R712. -/
def execAddAN8 (n : Byte) (s : State) : Result State := alu8 .add (.imm8 n) 2 s

/-- `ADC A,n8` (0xCE), R715. -/
def execAdcAN8 (n : Byte) (s : State) : Result State := alu8 .adc (.imm8 n) 2 s

/-- `SUB n8` (0xD6), R718. -/
def execSubN8 (n : Byte) (s : State) : Result State := alu8 .sub (.imm8 n) 2 s

/-- `SBC A,n8` (0xDE), R721. -/
def execSbcAN8 (n : Byte) (s : State) : Result State := alu8 .sbc (.imm8 n) 2 s

/-- `AND n8` (0xE6), R724. -/
def execAndN8 (n : Byte) (s : State) : Result State := alu8 .and (.imm8 n) 2 s

/-- `XOR n8` (0xEE), R727. -/
def execXorN8 (n : Byte) (s : State) : Result State := alu8 .xor (.imm8 n) 2 s

/-- `OR n8` (0xF6), R730. -/
def execOrN8 (n : Byte) (s : State) : Result State := alu8 .or (.imm8 n) 2 s

/-- `CP n8` (0xFE), R733. -/
def execCpN8 (n : Byte) (s : State) : Result State := alu8 .cp (.imm8 n) 2 s

end Sys2Proof.Machine
end

