-- ==== Sys2Proof/Machine/Control.lean ====
section
/-! DEFINITION. The control-transfer instructions (R1000 to R1040). `pc` is the address after the
instruction's bytes when a rule starts (R11). No flag is written. -/
namespace Sys2Proof.Machine

/-- `JP a16` and `JP HL` (R1010, R1012). -/
def jump (src : Src16) (cost : Nat) (s : State) : Result State :=
  (resolveSource16 src s).andThen fun t => charge cost (s.setPc t)

/-- `JP cc,a16` (R1011). -/
def jumpIf (cc : Cond) (t : Word) (taken notTaken : Nat) (s : State) : Result State :=
  (condHolds cc s).andThen fun holds => if holds then charge taken (s.setPc t) else charge notTaken s

/-- `JR e8` (R1013, R311). -/
def jumpRel (e : Byte) (cost : Nat) (s : State) : Result State := charge cost (s.setPc (s.pc + sext16 e))

/-- `JR cc,e8` (R1014). -/
def jumpRelIf (cc : Cond) (e : Byte) (taken notTaken : Nat) (s : State) : Result State :=
  (condHolds cc s).andThen fun holds => if holds then jumpRel e taken s else charge notTaken s

/-- `CALL a16` (R1020): the value pushed is the address of the next instruction. -/
def call (t : Word) (cost : Nat) (s : State) : Result State :=
  (push16 s.pc s).andThen fun s1 => charge cost (s1.setPc t)

/-- `CALL cc,a16` (R1021). -/
def callIf (cc : Cond) (t : Word) (taken notTaken : Nat) (s : State) : Result State :=
  (condHolds cc s).andThen fun holds => if holds then call t taken s else charge notTaken s

/-- `RET` (R1030). -/
def ret (cost : Nat) (s : State) : Result State :=
  (returnToCaller s).andThen fun s1 => charge cost s1

/-- `RET cc` (R1031). -/
def retIf (cc : Cond) (taken notTaken : Nat) (s : State) : Result State :=
  (condHolds cc s).andThen fun holds => if holds then ret taken s else charge notTaken s

/-- `RETI` (R1032): IME is 1 at once, and `ime_sched` is unchanged. -/
def retInterrupt (cost : Nat) (s : State) : Result State :=
  (returnToCaller s).andThen fun s1 => charge cost { s1 with ime := true }

/-- The target of `RST` from its field y (R309): `zext_16(y * 8)`. -/
def restartTarget (y : Fin 8) : Word := BitVec.ofNat 16 (y.val * 8)

/-- `RST t` (R1040). -/
def restart (y : Fin 8) (cost : Nat) (s : State) : Result State :=
  (push16 s.pc s).andThen fun s1 => charge cost (s1.setPc (restartTarget y))

/-- `JR e8` (0x18), R1013. -/
def execJrE8 (e : Byte) (s : State) : Result State := jumpRel e 3 s

/-- `JR NZ,e8` (0x20), R1014. -/
def execJrNZE8 (e : Byte) (s : State) : Result State := jumpRelIf .nz e 3 2 s

/-- `JR Z,e8` (0x28), R1014. -/
def execJrZE8 (e : Byte) (s : State) : Result State := jumpRelIf .z e 3 2 s

/-- `JR NC,e8` (0x30), R1014. -/
def execJrNCE8 (e : Byte) (s : State) : Result State := jumpRelIf .nc e 3 2 s

/-- `JR C,e8` (0x38), R1014. -/
def execJrCE8 (e : Byte) (s : State) : Result State := jumpRelIf .c e 3 2 s

/-- `RET NZ` (0xC0), R1031. -/
def execRetNZ (s : State) : Result State := retIf .nz 5 2 s

/-- `JP NZ,a16` (0xC2), R1011. -/
def execJpNZA16 (n : Word) (s : State) : Result State := jumpIf .nz n 4 3 s

/-- `JP a16` (0xC3), R1010. -/
def execJpA16 (n : Word) (s : State) : Result State := jump (.imm16 n) 4 s

/-- `CALL NZ,a16` (0xC4), R1021. -/
def execCallNZA16 (n : Word) (s : State) : Result State := callIf .nz n 6 3 s

/-- `RST 0x00` (0xC7), R1040. -/
def execRst00 (s : State) : Result State := restart 0 4 s

/-- `RET Z` (0xC8), R1031. -/
def execRetZ (s : State) : Result State := retIf .z 5 2 s

/-- `RET` (0xC9), R1030. -/
def execRet (s : State) : Result State := ret 4 s

/-- `JP Z,a16` (0xCA), R1011. -/
def execJpZA16 (n : Word) (s : State) : Result State := jumpIf .z n 4 3 s

/-- `CALL Z,a16` (0xCC), R1021. -/
def execCallZA16 (n : Word) (s : State) : Result State := callIf .z n 6 3 s

/-- `CALL a16` (0xCD), R1020. -/
def execCallA16 (n : Word) (s : State) : Result State := call n 6 s

/-- `RST 0x08` (0xCF), R1040. -/
def execRst08 (s : State) : Result State := restart 1 4 s

/-- `RET NC` (0xD0), R1031. -/
def execRetNC (s : State) : Result State := retIf .nc 5 2 s

/-- `JP NC,a16` (0xD2), R1011. -/
def execJpNCA16 (n : Word) (s : State) : Result State := jumpIf .nc n 4 3 s

/-- `CALL NC,a16` (0xD4), R1021. -/
def execCallNCA16 (n : Word) (s : State) : Result State := callIf .nc n 6 3 s

/-- `RST 0x10` (0xD7), R1040. -/
def execRst10 (s : State) : Result State := restart 2 4 s

/-- `RET C` (0xD8), R1031. -/
def execRetC (s : State) : Result State := retIf .c 5 2 s

/-- `RETI` (0xD9), R1032. -/
def execReti (s : State) : Result State := retInterrupt 4 s

/-- `JP C,a16` (0xDA), R1011. -/
def execJpCA16 (n : Word) (s : State) : Result State := jumpIf .c n 4 3 s

/-- `CALL C,a16` (0xDC), R1021. -/
def execCallCA16 (n : Word) (s : State) : Result State := callIf .c n 6 3 s

/-- `RST 0x18` (0xDF), R1040. -/
def execRst18 (s : State) : Result State := restart 3 4 s

/-- `RST 0x20` (0xE7), R1040. -/
def execRst20 (s : State) : Result State := restart 4 4 s

/-- `JP HL` (0xE9), R1012. -/
def execJpHL (s : State) : Result State := jump (.reg .hl) 1 s

/-- `RST 0x28` (0xEF), R1040. -/
def execRst28 (s : State) : Result State := restart 5 4 s

/-- `RST 0x30` (0xF7), R1040. -/
def execRst30 (s : State) : Result State := restart 6 4 s

/-- `RST 0x38` (0xFF), R1040. -/
def execRst38 (s : State) : Result State := restart 7 4 s

end Sys2Proof.Machine
end

