-- ==== Sys2Proof/Machine/Load16.lean ====
section
/-! DEFINITION. The 16-bit loads and the stack instructions (R600 to R611). -/
namespace Sys2Proof.Machine

/-- A 16-bit load (R600, R601, R603): the source is copied, then the target written. -/
def load16 (src : Src16) (tgt : Tgt16) (cost : Nat) (s : State) : Result State :=
  (resolveSource16 src s).andThen fun v =>
  (writeHandle16 (resolveTarget16 tgt) v s).andThen fun s1 => charge cost s1

/-- `LD HL,SP+e8` (R602): SP is unchanged; Z and N become 0. -/
def loadHLSP (e : Byte) (cost : Nat) (s : State) : Result State :=
  (readReg16 .sp s).andThen fun sp =>
  let out := spAdd sp e
  charge cost ((s.setReg16 .hl out.1).setFlags (some false) (some false) (some out.2.1) (some out.2.2))

/-- `PUSH rr2` (R610). -/
def push (rr : Reg16) (cost : Nat) (s : State) : Result State :=
  (readReg16 rr s).andThen fun v =>
  (push16 v s).andThen fun s1 => charge cost s1

/-- `POP rr2` (R611); a pop to AF writes the flags from bits 7 to 4 (R121). -/
def pop (rr : Reg16) (cost : Nat) (s : State) : Result State :=
  (pop16 s).andThen fun (v, s1) => charge cost (s1.setReg16 rr v)

/-- `LD BC,n16` (0x01), R600. -/
def execLdBCN16 (n : Word) (s : State) : Result State := load16 (.imm16 n) (.reg .bc) 3 s

/-- `LD (a16),SP` (0x08), R601. -/
def execLdMemA16SP (n : Word) (s : State) : Result State := load16 (.reg .sp) (.ind16 n) 5 s

/-- `LD DE,n16` (0x11), R600. -/
def execLdDEN16 (n : Word) (s : State) : Result State := load16 (.imm16 n) (.reg .de) 3 s

/-- `LD HL,n16` (0x21), R600. -/
def execLdHLN16 (n : Word) (s : State) : Result State := load16 (.imm16 n) (.reg .hl) 3 s

/-- `LD SP,n16` (0x31), R600. -/
def execLdSPN16 (n : Word) (s : State) : Result State := load16 (.imm16 n) (.reg .sp) 3 s

/-- `POP BC` (0xC1), R611. -/
def execPopBC (s : State) : Result State := pop .bc 3 s

/-- `PUSH BC` (0xC5), R610. -/
def execPushBC (s : State) : Result State := push .bc 4 s

/-- `POP DE` (0xD1), R611. -/
def execPopDE (s : State) : Result State := pop .de 3 s

/-- `PUSH DE` (0xD5), R610. -/
def execPushDE (s : State) : Result State := push .de 4 s

/-- `POP HL` (0xE1), R611. -/
def execPopHL (s : State) : Result State := pop .hl 3 s

/-- `PUSH HL` (0xE5), R610. -/
def execPushHL (s : State) : Result State := push .hl 4 s

/-- `POP AF` (0xF1), R611. -/
def execPopAF (s : State) : Result State := pop .af 3 s

/-- `PUSH AF` (0xF5), R610. -/
def execPushAF (s : State) : Result State := push .af 4 s

/-- `LD HL,SP+e8` (0xF8), R602. -/
def execLdHLSPE8 (e : Byte) (s : State) : Result State := loadHLSP e 3 s

/-- `LD SP,HL` (0xF9), R603. -/
def execLdSPHL (s : State) : Result State := load16 (.reg .hl) (.reg .sp) 2 s

end Sys2Proof.Machine
end

