-- ==== Sys2Proof/Machine/Load8.lean ====
section
/-! DEFINITION. The 8-bit loads (R500 to R516): one shared load over the operand forms, one that also
steps HL, and the meaning of each row. -/
namespace Sys2Proof.Machine

/-- An 8-bit load: the source is copied, then the target written (R410, R411). No flag is written. -/
def load8 (src : Src8) (tgt : Tgt8) (cost : Nat) (s : State) : Result State :=
  (resolveSource8 src s).andThen fun (v, s1) =>
  (resolveTarget8 tgt s1).andThen fun h =>
  (writeHandle8 h v s1).andThen fun s2 => charge cost s2

/-- An 8-bit load through the old HL, after which HL is stepped by `delta` (R507 to R510, D21). -/
def load8Step (src : Src8) (tgt : Tgt8) (delta : Word) (cost : Nat) (s : State) : Result State :=
  (resolveSource8 src s).andThen fun (v, s1) =>
  (resolveTarget8 tgt s1).andThen fun h =>
  (writeHandle8 h v s1).andThen fun s2 =>
  (readReg16 .hl s2).andThen fun hl => charge cost (s2.setReg16 .hl (hl + delta))

/-- `LD (BC),A` (0x02), R506. -/
def execLdMemBCA (s : State) : Result State := load8 (.reg .a) (.ind .bc) 2 s

/-- `LD B,n8` (0x06), R501. -/
def execLdBN8 (n : Byte) (s : State) : Result State := load8 (.imm8 n) (.reg .b) 2 s

/-- `LD A,(BC)` (0x0A), R505. -/
def execLdAMemBC (s : State) : Result State := load8 (.ind .bc) (.reg .a) 2 s

/-- `LD C,n8` (0x0E), R501. -/
def execLdCN8 (n : Byte) (s : State) : Result State := load8 (.imm8 n) (.reg .c) 2 s

/-- `LD (DE),A` (0x12), R506. -/
def execLdMemDEA (s : State) : Result State := load8 (.reg .a) (.ind .de) 2 s

/-- `LD D,n8` (0x16), R501. -/
def execLdDN8 (n : Byte) (s : State) : Result State := load8 (.imm8 n) (.reg .d) 2 s

/-- `LD A,(DE)` (0x1A), R505. -/
def execLdAMemDE (s : State) : Result State := load8 (.ind .de) (.reg .a) 2 s

/-- `LD E,n8` (0x1E), R501. -/
def execLdEN8 (n : Byte) (s : State) : Result State := load8 (.imm8 n) (.reg .e) 2 s

/-- `LD (HL+),A` (0x22), R509. -/
def execLdMemHLIncA (s : State) : Result State := load8Step (.reg .a) (.ind .hl) 1 2 s

/-- `LD H,n8` (0x26), R501. -/
def execLdHN8 (n : Byte) (s : State) : Result State := load8 (.imm8 n) (.reg .h) 2 s

/-- `LD A,(HL+)` (0x2A), R507. -/
def execLdAMemHLInc (s : State) : Result State := load8Step (.ind .hl) (.reg .a) 1 2 s

/-- `LD L,n8` (0x2E), R501. -/
def execLdLN8 (n : Byte) (s : State) : Result State := load8 (.imm8 n) (.reg .l) 2 s

/-- `LD (HL-),A` (0x32), R510. -/
def execLdMemHLDecA (s : State) : Result State := load8Step (.reg .a) (.ind .hl) (-1) 2 s

/-- `LD (HL),n8` (0x36), R504. -/
def execLdMemHLN8 (n : Byte) (s : State) : Result State := load8 (.imm8 n) (.ind .hl) 3 s

/-- `LD A,(HL-)` (0x3A), R508. -/
def execLdAMemHLDec (s : State) : Result State := load8Step (.ind .hl) (.reg .a) (-1) 2 s

/-- `LD A,n8` (0x3E), R501. -/
def execLdAN8 (n : Byte) (s : State) : Result State := load8 (.imm8 n) (.reg .a) 2 s

/-- `LD B,B` (0x40), R500. -/
def execLdBB (s : State) : Result State := load8 (.reg .b) (.reg .b) 1 s

/-- `LD B,C` (0x41), R500. -/
def execLdBC (s : State) : Result State := load8 (.reg .c) (.reg .b) 1 s

/-- `LD B,D` (0x42), R500. -/
def execLdBD (s : State) : Result State := load8 (.reg .d) (.reg .b) 1 s

/-- `LD B,E` (0x43), R500. -/
def execLdBE (s : State) : Result State := load8 (.reg .e) (.reg .b) 1 s

/-- `LD B,H` (0x44), R500. -/
def execLdBH (s : State) : Result State := load8 (.reg .h) (.reg .b) 1 s

/-- `LD B,L` (0x45), R500. -/
def execLdBL (s : State) : Result State := load8 (.reg .l) (.reg .b) 1 s

/-- `LD B,(HL)` (0x46), R502. -/
def execLdBMemHL (s : State) : Result State := load8 (.ind .hl) (.reg .b) 2 s

/-- `LD B,A` (0x47), R500. -/
def execLdBA (s : State) : Result State := load8 (.reg .a) (.reg .b) 1 s

/-- `LD C,B` (0x48), R500. -/
def execLdCB (s : State) : Result State := load8 (.reg .b) (.reg .c) 1 s

/-- `LD C,C` (0x49), R500. -/
def execLdCC (s : State) : Result State := load8 (.reg .c) (.reg .c) 1 s

/-- `LD C,D` (0x4A), R500. -/
def execLdCD (s : State) : Result State := load8 (.reg .d) (.reg .c) 1 s

/-- `LD C,E` (0x4B), R500. -/
def execLdCE (s : State) : Result State := load8 (.reg .e) (.reg .c) 1 s

/-- `LD C,H` (0x4C), R500. -/
def execLdCH (s : State) : Result State := load8 (.reg .h) (.reg .c) 1 s

/-- `LD C,L` (0x4D), R500. -/
def execLdCL (s : State) : Result State := load8 (.reg .l) (.reg .c) 1 s

/-- `LD C,(HL)` (0x4E), R502. -/
def execLdCMemHL (s : State) : Result State := load8 (.ind .hl) (.reg .c) 2 s

/-- `LD C,A` (0x4F), R500. -/
def execLdCA (s : State) : Result State := load8 (.reg .a) (.reg .c) 1 s

/-- `LD D,B` (0x50), R500. -/
def execLdDB (s : State) : Result State := load8 (.reg .b) (.reg .d) 1 s

/-- `LD D,C` (0x51), R500. -/
def execLdDC (s : State) : Result State := load8 (.reg .c) (.reg .d) 1 s

/-- `LD D,D` (0x52), R500. -/
def execLdDD (s : State) : Result State := load8 (.reg .d) (.reg .d) 1 s

/-- `LD D,E` (0x53), R500. -/
def execLdDE (s : State) : Result State := load8 (.reg .e) (.reg .d) 1 s

/-- `LD D,H` (0x54), R500. -/
def execLdDH (s : State) : Result State := load8 (.reg .h) (.reg .d) 1 s

/-- `LD D,L` (0x55), R500. -/
def execLdDL (s : State) : Result State := load8 (.reg .l) (.reg .d) 1 s

/-- `LD D,(HL)` (0x56), R502. -/
def execLdDMemHL (s : State) : Result State := load8 (.ind .hl) (.reg .d) 2 s

/-- `LD D,A` (0x57), R500. -/
def execLdDA (s : State) : Result State := load8 (.reg .a) (.reg .d) 1 s

/-- `LD E,B` (0x58), R500. -/
def execLdEB (s : State) : Result State := load8 (.reg .b) (.reg .e) 1 s

/-- `LD E,C` (0x59), R500. -/
def execLdEC (s : State) : Result State := load8 (.reg .c) (.reg .e) 1 s

/-- `LD E,D` (0x5A), R500. -/
def execLdED (s : State) : Result State := load8 (.reg .d) (.reg .e) 1 s

/-- `LD E,E` (0x5B), R500. -/
def execLdEE (s : State) : Result State := load8 (.reg .e) (.reg .e) 1 s

/-- `LD E,H` (0x5C), R500. -/
def execLdEH (s : State) : Result State := load8 (.reg .h) (.reg .e) 1 s

/-- `LD E,L` (0x5D), R500. -/
def execLdEL (s : State) : Result State := load8 (.reg .l) (.reg .e) 1 s

/-- `LD E,(HL)` (0x5E), R502. -/
def execLdEMemHL (s : State) : Result State := load8 (.ind .hl) (.reg .e) 2 s

/-- `LD E,A` (0x5F), R500. -/
def execLdEA (s : State) : Result State := load8 (.reg .a) (.reg .e) 1 s

/-- `LD H,B` (0x60), R500. -/
def execLdHB (s : State) : Result State := load8 (.reg .b) (.reg .h) 1 s

/-- `LD H,C` (0x61), R500. -/
def execLdHC (s : State) : Result State := load8 (.reg .c) (.reg .h) 1 s

/-- `LD H,D` (0x62), R500. -/
def execLdHD (s : State) : Result State := load8 (.reg .d) (.reg .h) 1 s

/-- `LD H,E` (0x63), R500. -/
def execLdHE (s : State) : Result State := load8 (.reg .e) (.reg .h) 1 s

/-- `LD H,H` (0x64), R500. -/
def execLdHH (s : State) : Result State := load8 (.reg .h) (.reg .h) 1 s

/-- `LD H,L` (0x65), R500. -/
def execLdHL (s : State) : Result State := load8 (.reg .l) (.reg .h) 1 s

/-- `LD H,(HL)` (0x66), R502. -/
def execLdHMemHL (s : State) : Result State := load8 (.ind .hl) (.reg .h) 2 s

/-- `LD H,A` (0x67), R500. -/
def execLdHA (s : State) : Result State := load8 (.reg .a) (.reg .h) 1 s

/-- `LD L,B` (0x68), R500. -/
def execLdLB (s : State) : Result State := load8 (.reg .b) (.reg .l) 1 s

/-- `LD L,C` (0x69), R500. -/
def execLdLC (s : State) : Result State := load8 (.reg .c) (.reg .l) 1 s

/-- `LD L,D` (0x6A), R500. -/
def execLdLD (s : State) : Result State := load8 (.reg .d) (.reg .l) 1 s

/-- `LD L,E` (0x6B), R500. -/
def execLdLE (s : State) : Result State := load8 (.reg .e) (.reg .l) 1 s

/-- `LD L,H` (0x6C), R500. -/
def execLdLH (s : State) : Result State := load8 (.reg .h) (.reg .l) 1 s

/-- `LD L,L` (0x6D), R500. -/
def execLdLL (s : State) : Result State := load8 (.reg .l) (.reg .l) 1 s

/-- `LD L,(HL)` (0x6E), R502. -/
def execLdLMemHL (s : State) : Result State := load8 (.ind .hl) (.reg .l) 2 s

/-- `LD L,A` (0x6F), R500. -/
def execLdLA (s : State) : Result State := load8 (.reg .a) (.reg .l) 1 s

/-- `LD (HL),B` (0x70), R503. -/
def execLdMemHLB (s : State) : Result State := load8 (.reg .b) (.ind .hl) 2 s

/-- `LD (HL),C` (0x71), R503. -/
def execLdMemHLC (s : State) : Result State := load8 (.reg .c) (.ind .hl) 2 s

/-- `LD (HL),D` (0x72), R503. -/
def execLdMemHLD (s : State) : Result State := load8 (.reg .d) (.ind .hl) 2 s

/-- `LD (HL),E` (0x73), R503. -/
def execLdMemHLE (s : State) : Result State := load8 (.reg .e) (.ind .hl) 2 s

/-- `LD (HL),H` (0x74), R503. -/
def execLdMemHLH (s : State) : Result State := load8 (.reg .h) (.ind .hl) 2 s

/-- `LD (HL),L` (0x75), R503. -/
def execLdMemHLL (s : State) : Result State := load8 (.reg .l) (.ind .hl) 2 s

/-- `LD (HL),A` (0x77), R503. -/
def execLdMemHLA (s : State) : Result State := load8 (.reg .a) (.ind .hl) 2 s

/-- `LD A,B` (0x78), R500. -/
def execLdAB (s : State) : Result State := load8 (.reg .b) (.reg .a) 1 s

/-- `LD A,C` (0x79), R500. -/
def execLdAC (s : State) : Result State := load8 (.reg .c) (.reg .a) 1 s

/-- `LD A,D` (0x7A), R500. -/
def execLdAD (s : State) : Result State := load8 (.reg .d) (.reg .a) 1 s

/-- `LD A,E` (0x7B), R500. -/
def execLdAE (s : State) : Result State := load8 (.reg .e) (.reg .a) 1 s

/-- `LD A,H` (0x7C), R500. -/
def execLdAH (s : State) : Result State := load8 (.reg .h) (.reg .a) 1 s

/-- `LD A,L` (0x7D), R500. -/
def execLdAL (s : State) : Result State := load8 (.reg .l) (.reg .a) 1 s

/-- `LD A,(HL)` (0x7E), R502. -/
def execLdAMemHL (s : State) : Result State := load8 (.ind .hl) (.reg .a) 2 s

/-- `LD A,A` (0x7F), R500. -/
def execLdAA (s : State) : Result State := load8 (.reg .a) (.reg .a) 1 s

/-- `LDH (a8),A` (0xE0), R511. -/
def execLdhMemA8A (n : Byte) (s : State) : Result State := load8 (.reg .a) (.indhi8 n) 3 s

/-- `LD (C),A` (0xE2), R513. -/
def execLdMemCA (s : State) : Result State := load8 (.reg .a) .indhiC 2 s

/-- `LD (a16),A` (0xEA), R515. -/
def execLdMemA16A (n : Word) (s : State) : Result State := load8 (.reg .a) (.ind16 n) 4 s

/-- `LDH A,(a8)` (0xF0), R512. -/
def execLdhAMemA8 (n : Byte) (s : State) : Result State := load8 (.indhi8 n) (.reg .a) 3 s

/-- `LD A,(C)` (0xF2), R514. -/
def execLdAMemC (s : State) : Result State := load8 .indhiC (.reg .a) 2 s

/-- `LD A,(a16)` (0xFA), R516. -/
def execLdAMemA16 (n : Word) (s : State) : Result State := load8 (.ind16 n) (.reg .a) 4 s

end Sys2Proof.Machine
end

