-- ==== Sys2Proof/Machine/RotateShiftBit.lean ====
section
/-! DEFINITION. The rotates, shifts and bit instructions (R900 to R935). -/
namespace Sys2Proof.Machine

/-- `RLCA`, `RRCA`, `RLA`, `RRA` (R900 to R903): Z, N and H become 0. -/
def rotA (op : RotOp) (cost : Nat) (s : State) : Result State :=
  (readReg8 .a s).andThen fun a =>
  (carryIn (rotUsesCarry op) s).andThen fun cin =>
  let out := rotFn op a cin
  charge cost ((s.setReg8 .a out.1).setFlags (some false) (some false) (some false) (some out.2))

/-- The extended rotates and shifts on a register or the byte at HL (R911 to R926): Z is computed from
the result. -/
def rot8 (op : RotOp) (src : Src8) (tgt : Tgt8) (cost : Nat) (s : State) : Result State :=
  (resolveSource8 src s).andThen fun (v, s1) =>
  (resolveTarget8 tgt s1).andThen fun h =>
  (carryIn (rotUsesCarry op) s1).andThen fun cin =>
  let out := rotFn op v cin
  (writeHandle8 h out.1 s1).andThen fun s2 =>
  charge cost (s2.setFlags (some (decide (out.1 = 0))) (some false) (some false) (some out.2))

/-- `BIT b,x` (R930, R931): C is unchanged and nothing else is written. -/
def bitTest (b : Fin 8) (src : Src8) (cost : Nat) (s : State) : Result State :=
  (resolveSource8 src s).andThen fun (v, s1) =>
  charge cost (s1.setFlags (some (!v.getLsbD b.val)) (some false) (some true) none)

/-- `RES b,x` (R932, R933). -/
def bitReset (b : Fin 8) (src : Src8) (tgt : Tgt8) (cost : Nat) (s : State) : Result State :=
  (resolveSource8 src s).andThen fun (v, s1) =>
  (resolveTarget8 tgt s1).andThen fun h =>
  (writeHandle8 h (v &&& ~~~bitMask b) s1).andThen fun s2 => charge cost s2

/-- `SET b,x` (R934, R935). -/
def bitSet (b : Fin 8) (src : Src8) (tgt : Tgt8) (cost : Nat) (s : State) : Result State :=
  (resolveSource8 src s).andThen fun (v, s1) =>
  (resolveTarget8 tgt s1).andThen fun h =>
  (writeHandle8 h (v ||| bitMask b) s1).andThen fun s2 => charge cost s2

/-- The source operand a `z` field names (R303). -/
def srcOfField (z : Nat) : Src8 :=
  match z with
  | 0 => .reg .b
  | 1 => .reg .c
  | 2 => .reg .d
  | 3 => .reg .e
  | 4 => .reg .h
  | 5 => .reg .l
  | 6 => .ind .hl
  | _ => .reg .a

/-- The target operand a `z` field names (R303). -/
def tgtOfField (z : Nat) : Tgt8 :=
  match z with
  | 0 => .reg .b
  | 1 => .reg .c
  | 2 => .reg .d
  | 3 => .reg .e
  | 4 => .reg .h
  | 5 => .reg .l
  | 6 => .ind .hl
  | _ => .reg .a

/-- The rotate a `y` field names (R307). -/
def rotOfField (y : Nat) : RotOp :=
  match y with
  | 0 => .rlc
  | 1 => .rrc
  | 2 => .rl
  | 3 => .rr
  | 4 => .sla
  | 5 => .sra
  | 6 => .swap
  | _ => .srl

/-- The extended entry that an extended opcode selects, read by its fields x, y and z (R302, R307,
R308): a memory form costs one or two cycles more than a register form. -/
def runExtended (op2 : Byte) (s : State) : Result State :=
  let x := op2.toNat / 64
  let y := op2.toNat / 8 % 8
  let z := op2.toNat % 8
  let b := Fin.ofNat 8 y
  match x with
  | 0 => rot8 (rotOfField y) (srcOfField z) (tgtOfField z) (if z = 6 then 4 else 2) s
  | 1 => bitTest b (srcOfField z) (if z = 6 then 3 else 2) s
  | 2 => bitReset b (srcOfField z) (tgtOfField z) (if z = 6 then 4 else 2) s
  | _ => bitSet b (srcOfField z) (tgtOfField z) (if z = 6 then 4 else 2) s

/-- `RLCA` (0x07), R900. -/
def execRlca (s : State) : Result State := rotA .rlc 1 s

/-- `RRCA` (0x0F), R901. -/
def execRrca (s : State) : Result State := rotA .rrc 1 s

/-- `RLA` (0x17), R902. -/
def execRla (s : State) : Result State := rotA .rl 1 s

/-- `RRA` (0x1F), R903. -/
def execRra (s : State) : Result State := rotA .rr 1 s

/-- `RLC B` (0xCB00), R911. -/
def execRlcB (s : State) : Result State := rot8 .rlc (.reg .b) (.reg .b) 2 s

/-- `RLC C` (0xCB01), R911. -/
def execRlcC (s : State) : Result State := rot8 .rlc (.reg .c) (.reg .c) 2 s

/-- `RLC D` (0xCB02), R911. -/
def execRlcD (s : State) : Result State := rot8 .rlc (.reg .d) (.reg .d) 2 s

/-- `RLC E` (0xCB03), R911. -/
def execRlcE (s : State) : Result State := rot8 .rlc (.reg .e) (.reg .e) 2 s

/-- `RLC H` (0xCB04), R911. -/
def execRlcH (s : State) : Result State := rot8 .rlc (.reg .h) (.reg .h) 2 s

/-- `RLC L` (0xCB05), R911. -/
def execRlcL (s : State) : Result State := rot8 .rlc (.reg .l) (.reg .l) 2 s

/-- `RLC (HL)` (0xCB06), R912. -/
def execRlcMemHL (s : State) : Result State := rot8 .rlc (.ind .hl) (.ind .hl) 4 s

/-- `RLC A` (0xCB07), R911. -/
def execRlcA (s : State) : Result State := rot8 .rlc (.reg .a) (.reg .a) 2 s

/-- `RRC B` (0xCB08), R913. -/
def execRrcB (s : State) : Result State := rot8 .rrc (.reg .b) (.reg .b) 2 s

/-- `RRC C` (0xCB09), R913. -/
def execRrcC (s : State) : Result State := rot8 .rrc (.reg .c) (.reg .c) 2 s

/-- `RRC D` (0xCB0A), R913. -/
def execRrcD (s : State) : Result State := rot8 .rrc (.reg .d) (.reg .d) 2 s

/-- `RRC E` (0xCB0B), R913. -/
def execRrcE (s : State) : Result State := rot8 .rrc (.reg .e) (.reg .e) 2 s

/-- `RRC H` (0xCB0C), R913. -/
def execRrcH (s : State) : Result State := rot8 .rrc (.reg .h) (.reg .h) 2 s

/-- `RRC L` (0xCB0D), R913. -/
def execRrcL (s : State) : Result State := rot8 .rrc (.reg .l) (.reg .l) 2 s

/-- `RRC (HL)` (0xCB0E), R914. -/
def execRrcMemHL (s : State) : Result State := rot8 .rrc (.ind .hl) (.ind .hl) 4 s

/-- `RRC A` (0xCB0F), R913. -/
def execRrcA (s : State) : Result State := rot8 .rrc (.reg .a) (.reg .a) 2 s

/-- `RL B` (0xCB10), R915. -/
def execRlB (s : State) : Result State := rot8 .rl (.reg .b) (.reg .b) 2 s

/-- `RL C` (0xCB11), R915. -/
def execRlC (s : State) : Result State := rot8 .rl (.reg .c) (.reg .c) 2 s

/-- `RL D` (0xCB12), R915. -/
def execRlD (s : State) : Result State := rot8 .rl (.reg .d) (.reg .d) 2 s

/-- `RL E` (0xCB13), R915. -/
def execRlE (s : State) : Result State := rot8 .rl (.reg .e) (.reg .e) 2 s

/-- `RL H` (0xCB14), R915. -/
def execRlH (s : State) : Result State := rot8 .rl (.reg .h) (.reg .h) 2 s

/-- `RL L` (0xCB15), R915. -/
def execRlL (s : State) : Result State := rot8 .rl (.reg .l) (.reg .l) 2 s

/-- `RL (HL)` (0xCB16), R916. -/
def execRlMemHL (s : State) : Result State := rot8 .rl (.ind .hl) (.ind .hl) 4 s

/-- `RL A` (0xCB17), R915. -/
def execRlA (s : State) : Result State := rot8 .rl (.reg .a) (.reg .a) 2 s

/-- `RR B` (0xCB18), R917. -/
def execRrB (s : State) : Result State := rot8 .rr (.reg .b) (.reg .b) 2 s

/-- `RR C` (0xCB19), R917. -/
def execRrC (s : State) : Result State := rot8 .rr (.reg .c) (.reg .c) 2 s

/-- `RR D` (0xCB1A), R917. -/
def execRrD (s : State) : Result State := rot8 .rr (.reg .d) (.reg .d) 2 s

/-- `RR E` (0xCB1B), R917. -/
def execRrE (s : State) : Result State := rot8 .rr (.reg .e) (.reg .e) 2 s

/-- `RR H` (0xCB1C), R917. -/
def execRrH (s : State) : Result State := rot8 .rr (.reg .h) (.reg .h) 2 s

/-- `RR L` (0xCB1D), R917. -/
def execRrL (s : State) : Result State := rot8 .rr (.reg .l) (.reg .l) 2 s

/-- `RR (HL)` (0xCB1E), R918. -/
def execRrMemHL (s : State) : Result State := rot8 .rr (.ind .hl) (.ind .hl) 4 s

/-- `RR A` (0xCB1F), R917. -/
def execRrA (s : State) : Result State := rot8 .rr (.reg .a) (.reg .a) 2 s

/-- `SLA B` (0xCB20), R919. -/
def execSlaB (s : State) : Result State := rot8 .sla (.reg .b) (.reg .b) 2 s

/-- `SLA C` (0xCB21), R919. -/
def execSlaC (s : State) : Result State := rot8 .sla (.reg .c) (.reg .c) 2 s

/-- `SLA D` (0xCB22), R919. -/
def execSlaD (s : State) : Result State := rot8 .sla (.reg .d) (.reg .d) 2 s

/-- `SLA E` (0xCB23), R919. -/
def execSlaE (s : State) : Result State := rot8 .sla (.reg .e) (.reg .e) 2 s

/-- `SLA H` (0xCB24), R919. -/
def execSlaH (s : State) : Result State := rot8 .sla (.reg .h) (.reg .h) 2 s

/-- `SLA L` (0xCB25), R919. -/
def execSlaL (s : State) : Result State := rot8 .sla (.reg .l) (.reg .l) 2 s

/-- `SLA (HL)` (0xCB26), R920. -/
def execSlaMemHL (s : State) : Result State := rot8 .sla (.ind .hl) (.ind .hl) 4 s

/-- `SLA A` (0xCB27), R919. -/
def execSlaA (s : State) : Result State := rot8 .sla (.reg .a) (.reg .a) 2 s

/-- `SRA B` (0xCB28), R921. -/
def execSraB (s : State) : Result State := rot8 .sra (.reg .b) (.reg .b) 2 s

/-- `SRA C` (0xCB29), R921. -/
def execSraC (s : State) : Result State := rot8 .sra (.reg .c) (.reg .c) 2 s

/-- `SRA D` (0xCB2A), R921. -/
def execSraD (s : State) : Result State := rot8 .sra (.reg .d) (.reg .d) 2 s

/-- `SRA E` (0xCB2B), R921. -/
def execSraE (s : State) : Result State := rot8 .sra (.reg .e) (.reg .e) 2 s

/-- `SRA H` (0xCB2C), R921. -/
def execSraH (s : State) : Result State := rot8 .sra (.reg .h) (.reg .h) 2 s

/-- `SRA L` (0xCB2D), R921. -/
def execSraL (s : State) : Result State := rot8 .sra (.reg .l) (.reg .l) 2 s

/-- `SRA (HL)` (0xCB2E), R922. -/
def execSraMemHL (s : State) : Result State := rot8 .sra (.ind .hl) (.ind .hl) 4 s

/-- `SRA A` (0xCB2F), R921. -/
def execSraA (s : State) : Result State := rot8 .sra (.reg .a) (.reg .a) 2 s

/-- `SWAP B` (0xCB30), R923. -/
def execSwapB (s : State) : Result State := rot8 .swap (.reg .b) (.reg .b) 2 s

/-- `SWAP C` (0xCB31), R923. -/
def execSwapC (s : State) : Result State := rot8 .swap (.reg .c) (.reg .c) 2 s

/-- `SWAP D` (0xCB32), R923. -/
def execSwapD (s : State) : Result State := rot8 .swap (.reg .d) (.reg .d) 2 s

/-- `SWAP E` (0xCB33), R923. -/
def execSwapE (s : State) : Result State := rot8 .swap (.reg .e) (.reg .e) 2 s

/-- `SWAP H` (0xCB34), R923. -/
def execSwapH (s : State) : Result State := rot8 .swap (.reg .h) (.reg .h) 2 s

/-- `SWAP L` (0xCB35), R923. -/
def execSwapL (s : State) : Result State := rot8 .swap (.reg .l) (.reg .l) 2 s

/-- `SWAP (HL)` (0xCB36), R924. -/
def execSwapMemHL (s : State) : Result State := rot8 .swap (.ind .hl) (.ind .hl) 4 s

/-- `SWAP A` (0xCB37), R923. -/
def execSwapA (s : State) : Result State := rot8 .swap (.reg .a) (.reg .a) 2 s

/-- `SRL B` (0xCB38), R925. -/
def execSrlB (s : State) : Result State := rot8 .srl (.reg .b) (.reg .b) 2 s

/-- `SRL C` (0xCB39), R925. -/
def execSrlC (s : State) : Result State := rot8 .srl (.reg .c) (.reg .c) 2 s

/-- `SRL D` (0xCB3A), R925. -/
def execSrlD (s : State) : Result State := rot8 .srl (.reg .d) (.reg .d) 2 s

/-- `SRL E` (0xCB3B), R925. -/
def execSrlE (s : State) : Result State := rot8 .srl (.reg .e) (.reg .e) 2 s

/-- `SRL H` (0xCB3C), R925. -/
def execSrlH (s : State) : Result State := rot8 .srl (.reg .h) (.reg .h) 2 s

/-- `SRL L` (0xCB3D), R925. -/
def execSrlL (s : State) : Result State := rot8 .srl (.reg .l) (.reg .l) 2 s

/-- `SRL (HL)` (0xCB3E), R926. -/
def execSrlMemHL (s : State) : Result State := rot8 .srl (.ind .hl) (.ind .hl) 4 s

/-- `SRL A` (0xCB3F), R925. -/
def execSrlA (s : State) : Result State := rot8 .srl (.reg .a) (.reg .a) 2 s

/-- `BIT 0,B` (0xCB40), R930. -/
def execBit0B (s : State) : Result State := bitTest 0 (.reg .b) 2 s

/-- `BIT 0,C` (0xCB41), R930. -/
def execBit0C (s : State) : Result State := bitTest 0 (.reg .c) 2 s

/-- `BIT 0,D` (0xCB42), R930. -/
def execBit0D (s : State) : Result State := bitTest 0 (.reg .d) 2 s

/-- `BIT 0,E` (0xCB43), R930. -/
def execBit0E (s : State) : Result State := bitTest 0 (.reg .e) 2 s

/-- `BIT 0,H` (0xCB44), R930. -/
def execBit0H (s : State) : Result State := bitTest 0 (.reg .h) 2 s

/-- `BIT 0,L` (0xCB45), R930. -/
def execBit0L (s : State) : Result State := bitTest 0 (.reg .l) 2 s

/-- `BIT 0,(HL)` (0xCB46), R931. -/
def execBit0MemHL (s : State) : Result State := bitTest 0 (.ind .hl) 3 s

/-- `BIT 0,A` (0xCB47), R930. -/
def execBit0A (s : State) : Result State := bitTest 0 (.reg .a) 2 s

/-- `BIT 1,B` (0xCB48), R930. -/
def execBit1B (s : State) : Result State := bitTest 1 (.reg .b) 2 s

/-- `BIT 1,C` (0xCB49), R930. -/
def execBit1C (s : State) : Result State := bitTest 1 (.reg .c) 2 s

/-- `BIT 1,D` (0xCB4A), R930. -/
def execBit1D (s : State) : Result State := bitTest 1 (.reg .d) 2 s

/-- `BIT 1,E` (0xCB4B), R930. -/
def execBit1E (s : State) : Result State := bitTest 1 (.reg .e) 2 s

/-- `BIT 1,H` (0xCB4C), R930. -/
def execBit1H (s : State) : Result State := bitTest 1 (.reg .h) 2 s

/-- `BIT 1,L` (0xCB4D), R930. -/
def execBit1L (s : State) : Result State := bitTest 1 (.reg .l) 2 s

/-- `BIT 1,(HL)` (0xCB4E), R931. -/
def execBit1MemHL (s : State) : Result State := bitTest 1 (.ind .hl) 3 s

/-- `BIT 1,A` (0xCB4F), R930. -/
def execBit1A (s : State) : Result State := bitTest 1 (.reg .a) 2 s

/-- `BIT 2,B` (0xCB50), R930. -/
def execBit2B (s : State) : Result State := bitTest 2 (.reg .b) 2 s

/-- `BIT 2,C` (0xCB51), R930. -/
def execBit2C (s : State) : Result State := bitTest 2 (.reg .c) 2 s

/-- `BIT 2,D` (0xCB52), R930. -/
def execBit2D (s : State) : Result State := bitTest 2 (.reg .d) 2 s

/-- `BIT 2,E` (0xCB53), R930. -/
def execBit2E (s : State) : Result State := bitTest 2 (.reg .e) 2 s

/-- `BIT 2,H` (0xCB54), R930. -/
def execBit2H (s : State) : Result State := bitTest 2 (.reg .h) 2 s

/-- `BIT 2,L` (0xCB55), R930. -/
def execBit2L (s : State) : Result State := bitTest 2 (.reg .l) 2 s

/-- `BIT 2,(HL)` (0xCB56), R931. -/
def execBit2MemHL (s : State) : Result State := bitTest 2 (.ind .hl) 3 s

/-- `BIT 2,A` (0xCB57), R930. -/
def execBit2A (s : State) : Result State := bitTest 2 (.reg .a) 2 s

/-- `BIT 3,B` (0xCB58), R930. -/
def execBit3B (s : State) : Result State := bitTest 3 (.reg .b) 2 s

/-- `BIT 3,C` (0xCB59), R930. -/
def execBit3C (s : State) : Result State := bitTest 3 (.reg .c) 2 s

/-- `BIT 3,D` (0xCB5A), R930. -/
def execBit3D (s : State) : Result State := bitTest 3 (.reg .d) 2 s

/-- `BIT 3,E` (0xCB5B), R930. -/
def execBit3E (s : State) : Result State := bitTest 3 (.reg .e) 2 s

/-- `BIT 3,H` (0xCB5C), R930. -/
def execBit3H (s : State) : Result State := bitTest 3 (.reg .h) 2 s

/-- `BIT 3,L` (0xCB5D), R930. -/
def execBit3L (s : State) : Result State := bitTest 3 (.reg .l) 2 s

/-- `BIT 3,(HL)` (0xCB5E), R931. -/
def execBit3MemHL (s : State) : Result State := bitTest 3 (.ind .hl) 3 s

/-- `BIT 3,A` (0xCB5F), R930. -/
def execBit3A (s : State) : Result State := bitTest 3 (.reg .a) 2 s

/-- `BIT 4,B` (0xCB60), R930. -/
def execBit4B (s : State) : Result State := bitTest 4 (.reg .b) 2 s

/-- `BIT 4,C` (0xCB61), R930. -/
def execBit4C (s : State) : Result State := bitTest 4 (.reg .c) 2 s

/-- `BIT 4,D` (0xCB62), R930. -/
def execBit4D (s : State) : Result State := bitTest 4 (.reg .d) 2 s

/-- `BIT 4,E` (0xCB63), R930. -/
def execBit4E (s : State) : Result State := bitTest 4 (.reg .e) 2 s

/-- `BIT 4,H` (0xCB64), R930. -/
def execBit4H (s : State) : Result State := bitTest 4 (.reg .h) 2 s

/-- `BIT 4,L` (0xCB65), R930. -/
def execBit4L (s : State) : Result State := bitTest 4 (.reg .l) 2 s

/-- `BIT 4,(HL)` (0xCB66), R931. -/
def execBit4MemHL (s : State) : Result State := bitTest 4 (.ind .hl) 3 s

/-- `BIT 4,A` (0xCB67), R930. -/
def execBit4A (s : State) : Result State := bitTest 4 (.reg .a) 2 s

/-- `BIT 5,B` (0xCB68), R930. -/
def execBit5B (s : State) : Result State := bitTest 5 (.reg .b) 2 s

/-- `BIT 5,C` (0xCB69), R930. -/
def execBit5C (s : State) : Result State := bitTest 5 (.reg .c) 2 s

/-- `BIT 5,D` (0xCB6A), R930. -/
def execBit5D (s : State) : Result State := bitTest 5 (.reg .d) 2 s

/-- `BIT 5,E` (0xCB6B), R930. -/
def execBit5E (s : State) : Result State := bitTest 5 (.reg .e) 2 s

/-- `BIT 5,H` (0xCB6C), R930. -/
def execBit5H (s : State) : Result State := bitTest 5 (.reg .h) 2 s

/-- `BIT 5,L` (0xCB6D), R930. -/
def execBit5L (s : State) : Result State := bitTest 5 (.reg .l) 2 s

/-- `BIT 5,(HL)` (0xCB6E), R931. -/
def execBit5MemHL (s : State) : Result State := bitTest 5 (.ind .hl) 3 s

/-- `BIT 5,A` (0xCB6F), R930. -/
def execBit5A (s : State) : Result State := bitTest 5 (.reg .a) 2 s

/-- `BIT 6,B` (0xCB70), R930. -/
def execBit6B (s : State) : Result State := bitTest 6 (.reg .b) 2 s

/-- `BIT 6,C` (0xCB71), R930. -/
def execBit6C (s : State) : Result State := bitTest 6 (.reg .c) 2 s

/-- `BIT 6,D` (0xCB72), R930. -/
def execBit6D (s : State) : Result State := bitTest 6 (.reg .d) 2 s

/-- `BIT 6,E` (0xCB73), R930. -/
def execBit6E (s : State) : Result State := bitTest 6 (.reg .e) 2 s

/-- `BIT 6,H` (0xCB74), R930. -/
def execBit6H (s : State) : Result State := bitTest 6 (.reg .h) 2 s

/-- `BIT 6,L` (0xCB75), R930. -/
def execBit6L (s : State) : Result State := bitTest 6 (.reg .l) 2 s

/-- `BIT 6,(HL)` (0xCB76), R931. -/
def execBit6MemHL (s : State) : Result State := bitTest 6 (.ind .hl) 3 s

/-- `BIT 6,A` (0xCB77), R930. -/
def execBit6A (s : State) : Result State := bitTest 6 (.reg .a) 2 s

/-- `BIT 7,B` (0xCB78), R930. -/
def execBit7B (s : State) : Result State := bitTest 7 (.reg .b) 2 s

/-- `BIT 7,C` (0xCB79), R930. -/
def execBit7C (s : State) : Result State := bitTest 7 (.reg .c) 2 s

/-- `BIT 7,D` (0xCB7A), R930. -/
def execBit7D (s : State) : Result State := bitTest 7 (.reg .d) 2 s

/-- `BIT 7,E` (0xCB7B), R930. -/
def execBit7E (s : State) : Result State := bitTest 7 (.reg .e) 2 s

/-- `BIT 7,H` (0xCB7C), R930. -/
def execBit7H (s : State) : Result State := bitTest 7 (.reg .h) 2 s

/-- `BIT 7,L` (0xCB7D), R930. -/
def execBit7L (s : State) : Result State := bitTest 7 (.reg .l) 2 s

/-- `BIT 7,(HL)` (0xCB7E), R931. -/
def execBit7MemHL (s : State) : Result State := bitTest 7 (.ind .hl) 3 s

/-- `BIT 7,A` (0xCB7F), R930. -/
def execBit7A (s : State) : Result State := bitTest 7 (.reg .a) 2 s

/-- `RES 0,B` (0xCB80), R932. -/
def execRes0B (s : State) : Result State := bitReset 0 (.reg .b) (.reg .b) 2 s

/-- `RES 0,C` (0xCB81), R932. -/
def execRes0C (s : State) : Result State := bitReset 0 (.reg .c) (.reg .c) 2 s

/-- `RES 0,D` (0xCB82), R932. -/
def execRes0D (s : State) : Result State := bitReset 0 (.reg .d) (.reg .d) 2 s

/-- `RES 0,E` (0xCB83), R932. -/
def execRes0E (s : State) : Result State := bitReset 0 (.reg .e) (.reg .e) 2 s

/-- `RES 0,H` (0xCB84), R932. -/
def execRes0H (s : State) : Result State := bitReset 0 (.reg .h) (.reg .h) 2 s

/-- `RES 0,L` (0xCB85), R932. -/
def execRes0L (s : State) : Result State := bitReset 0 (.reg .l) (.reg .l) 2 s

/-- `RES 0,(HL)` (0xCB86), R933. -/
def execRes0MemHL (s : State) : Result State := bitReset 0 (.ind .hl) (.ind .hl) 4 s

/-- `RES 0,A` (0xCB87), R932. -/
def execRes0A (s : State) : Result State := bitReset 0 (.reg .a) (.reg .a) 2 s

/-- `RES 1,B` (0xCB88), R932. -/
def execRes1B (s : State) : Result State := bitReset 1 (.reg .b) (.reg .b) 2 s

/-- `RES 1,C` (0xCB89), R932. -/
def execRes1C (s : State) : Result State := bitReset 1 (.reg .c) (.reg .c) 2 s

/-- `RES 1,D` (0xCB8A), R932. -/
def execRes1D (s : State) : Result State := bitReset 1 (.reg .d) (.reg .d) 2 s

/-- `RES 1,E` (0xCB8B), R932. -/
def execRes1E (s : State) : Result State := bitReset 1 (.reg .e) (.reg .e) 2 s

/-- `RES 1,H` (0xCB8C), R932. -/
def execRes1H (s : State) : Result State := bitReset 1 (.reg .h) (.reg .h) 2 s

/-- `RES 1,L` (0xCB8D), R932. -/
def execRes1L (s : State) : Result State := bitReset 1 (.reg .l) (.reg .l) 2 s

/-- `RES 1,(HL)` (0xCB8E), R933. -/
def execRes1MemHL (s : State) : Result State := bitReset 1 (.ind .hl) (.ind .hl) 4 s

/-- `RES 1,A` (0xCB8F), R932. -/
def execRes1A (s : State) : Result State := bitReset 1 (.reg .a) (.reg .a) 2 s

/-- `RES 2,B` (0xCB90), R932. -/
def execRes2B (s : State) : Result State := bitReset 2 (.reg .b) (.reg .b) 2 s

/-- `RES 2,C` (0xCB91), R932. -/
def execRes2C (s : State) : Result State := bitReset 2 (.reg .c) (.reg .c) 2 s

/-- `RES 2,D` (0xCB92), R932. -/
def execRes2D (s : State) : Result State := bitReset 2 (.reg .d) (.reg .d) 2 s

/-- `RES 2,E` (0xCB93), R932. -/
def execRes2E (s : State) : Result State := bitReset 2 (.reg .e) (.reg .e) 2 s

/-- `RES 2,H` (0xCB94), R932. -/
def execRes2H (s : State) : Result State := bitReset 2 (.reg .h) (.reg .h) 2 s

/-- `RES 2,L` (0xCB95), R932. -/
def execRes2L (s : State) : Result State := bitReset 2 (.reg .l) (.reg .l) 2 s

/-- `RES 2,(HL)` (0xCB96), R933. -/
def execRes2MemHL (s : State) : Result State := bitReset 2 (.ind .hl) (.ind .hl) 4 s

/-- `RES 2,A` (0xCB97), R932. -/
def execRes2A (s : State) : Result State := bitReset 2 (.reg .a) (.reg .a) 2 s

/-- `RES 3,B` (0xCB98), R932. -/
def execRes3B (s : State) : Result State := bitReset 3 (.reg .b) (.reg .b) 2 s

/-- `RES 3,C` (0xCB99), R932. -/
def execRes3C (s : State) : Result State := bitReset 3 (.reg .c) (.reg .c) 2 s

/-- `RES 3,D` (0xCB9A), R932. -/
def execRes3D (s : State) : Result State := bitReset 3 (.reg .d) (.reg .d) 2 s

/-- `RES 3,E` (0xCB9B), R932. -/
def execRes3E (s : State) : Result State := bitReset 3 (.reg .e) (.reg .e) 2 s

/-- `RES 3,H` (0xCB9C), R932. -/
def execRes3H (s : State) : Result State := bitReset 3 (.reg .h) (.reg .h) 2 s

/-- `RES 3,L` (0xCB9D), R932. -/
def execRes3L (s : State) : Result State := bitReset 3 (.reg .l) (.reg .l) 2 s

/-- `RES 3,(HL)` (0xCB9E), R933. -/
def execRes3MemHL (s : State) : Result State := bitReset 3 (.ind .hl) (.ind .hl) 4 s

/-- `RES 3,A` (0xCB9F), R932. -/
def execRes3A (s : State) : Result State := bitReset 3 (.reg .a) (.reg .a) 2 s

/-- `RES 4,B` (0xCBA0), R932. -/
def execRes4B (s : State) : Result State := bitReset 4 (.reg .b) (.reg .b) 2 s

/-- `RES 4,C` (0xCBA1), R932. -/
def execRes4C (s : State) : Result State := bitReset 4 (.reg .c) (.reg .c) 2 s

/-- `RES 4,D` (0xCBA2), R932. -/
def execRes4D (s : State) : Result State := bitReset 4 (.reg .d) (.reg .d) 2 s

/-- `RES 4,E` (0xCBA3), R932. -/
def execRes4E (s : State) : Result State := bitReset 4 (.reg .e) (.reg .e) 2 s

/-- `RES 4,H` (0xCBA4), R932. -/
def execRes4H (s : State) : Result State := bitReset 4 (.reg .h) (.reg .h) 2 s

/-- `RES 4,L` (0xCBA5), R932. -/
def execRes4L (s : State) : Result State := bitReset 4 (.reg .l) (.reg .l) 2 s

/-- `RES 4,(HL)` (0xCBA6), R933. -/
def execRes4MemHL (s : State) : Result State := bitReset 4 (.ind .hl) (.ind .hl) 4 s

/-- `RES 4,A` (0xCBA7), R932. -/
def execRes4A (s : State) : Result State := bitReset 4 (.reg .a) (.reg .a) 2 s

/-- `RES 5,B` (0xCBA8), R932. -/
def execRes5B (s : State) : Result State := bitReset 5 (.reg .b) (.reg .b) 2 s

/-- `RES 5,C` (0xCBA9), R932. -/
def execRes5C (s : State) : Result State := bitReset 5 (.reg .c) (.reg .c) 2 s

/-- `RES 5,D` (0xCBAA), R932. -/
def execRes5D (s : State) : Result State := bitReset 5 (.reg .d) (.reg .d) 2 s

/-- `RES 5,E` (0xCBAB), R932. -/
def execRes5E (s : State) : Result State := bitReset 5 (.reg .e) (.reg .e) 2 s

/-- `RES 5,H` (0xCBAC), R932. -/
def execRes5H (s : State) : Result State := bitReset 5 (.reg .h) (.reg .h) 2 s

/-- `RES 5,L` (0xCBAD), R932. -/
def execRes5L (s : State) : Result State := bitReset 5 (.reg .l) (.reg .l) 2 s

/-- `RES 5,(HL)` (0xCBAE), R933. -/
def execRes5MemHL (s : State) : Result State := bitReset 5 (.ind .hl) (.ind .hl) 4 s

/-- `RES 5,A` (0xCBAF), R932. -/
def execRes5A (s : State) : Result State := bitReset 5 (.reg .a) (.reg .a) 2 s

/-- `RES 6,B` (0xCBB0), R932. -/
def execRes6B (s : State) : Result State := bitReset 6 (.reg .b) (.reg .b) 2 s

/-- `RES 6,C` (0xCBB1), R932. -/
def execRes6C (s : State) : Result State := bitReset 6 (.reg .c) (.reg .c) 2 s

/-- `RES 6,D` (0xCBB2), R932. -/
def execRes6D (s : State) : Result State := bitReset 6 (.reg .d) (.reg .d) 2 s

/-- `RES 6,E` (0xCBB3), R932. -/
def execRes6E (s : State) : Result State := bitReset 6 (.reg .e) (.reg .e) 2 s

/-- `RES 6,H` (0xCBB4), R932. -/
def execRes6H (s : State) : Result State := bitReset 6 (.reg .h) (.reg .h) 2 s

/-- `RES 6,L` (0xCBB5), R932. -/
def execRes6L (s : State) : Result State := bitReset 6 (.reg .l) (.reg .l) 2 s

/-- `RES 6,(HL)` (0xCBB6), R933. -/
def execRes6MemHL (s : State) : Result State := bitReset 6 (.ind .hl) (.ind .hl) 4 s

/-- `RES 6,A` (0xCBB7), R932. -/
def execRes6A (s : State) : Result State := bitReset 6 (.reg .a) (.reg .a) 2 s

/-- `RES 7,B` (0xCBB8), R932. -/
def execRes7B (s : State) : Result State := bitReset 7 (.reg .b) (.reg .b) 2 s

/-- `RES 7,C` (0xCBB9), R932. -/
def execRes7C (s : State) : Result State := bitReset 7 (.reg .c) (.reg .c) 2 s

/-- `RES 7,D` (0xCBBA), R932. -/
def execRes7D (s : State) : Result State := bitReset 7 (.reg .d) (.reg .d) 2 s

/-- `RES 7,E` (0xCBBB), R932. -/
def execRes7E (s : State) : Result State := bitReset 7 (.reg .e) (.reg .e) 2 s

/-- `RES 7,H` (0xCBBC), R932. -/
def execRes7H (s : State) : Result State := bitReset 7 (.reg .h) (.reg .h) 2 s

/-- `RES 7,L` (0xCBBD), R932. -/
def execRes7L (s : State) : Result State := bitReset 7 (.reg .l) (.reg .l) 2 s

/-- `RES 7,(HL)` (0xCBBE), R933. -/
def execRes7MemHL (s : State) : Result State := bitReset 7 (.ind .hl) (.ind .hl) 4 s

/-- `RES 7,A` (0xCBBF), R932. -/
def execRes7A (s : State) : Result State := bitReset 7 (.reg .a) (.reg .a) 2 s

/-- `SET 0,B` (0xCBC0), R934. -/
def execSet0B (s : State) : Result State := bitSet 0 (.reg .b) (.reg .b) 2 s

/-- `SET 0,C` (0xCBC1), R934. -/
def execSet0C (s : State) : Result State := bitSet 0 (.reg .c) (.reg .c) 2 s

/-- `SET 0,D` (0xCBC2), R934. -/
def execSet0D (s : State) : Result State := bitSet 0 (.reg .d) (.reg .d) 2 s

/-- `SET 0,E` (0xCBC3), R934. -/
def execSet0E (s : State) : Result State := bitSet 0 (.reg .e) (.reg .e) 2 s

/-- `SET 0,H` (0xCBC4), R934. -/
def execSet0H (s : State) : Result State := bitSet 0 (.reg .h) (.reg .h) 2 s

/-- `SET 0,L` (0xCBC5), R934. -/
def execSet0L (s : State) : Result State := bitSet 0 (.reg .l) (.reg .l) 2 s

/-- `SET 0,(HL)` (0xCBC6), R935. -/
def execSet0MemHL (s : State) : Result State := bitSet 0 (.ind .hl) (.ind .hl) 4 s

/-- `SET 0,A` (0xCBC7), R934. -/
def execSet0A (s : State) : Result State := bitSet 0 (.reg .a) (.reg .a) 2 s

/-- `SET 1,B` (0xCBC8), R934. -/
def execSet1B (s : State) : Result State := bitSet 1 (.reg .b) (.reg .b) 2 s

/-- `SET 1,C` (0xCBC9), R934. -/
def execSet1C (s : State) : Result State := bitSet 1 (.reg .c) (.reg .c) 2 s

/-- `SET 1,D` (0xCBCA), R934. -/
def execSet1D (s : State) : Result State := bitSet 1 (.reg .d) (.reg .d) 2 s

/-- `SET 1,E` (0xCBCB), R934. -/
def execSet1E (s : State) : Result State := bitSet 1 (.reg .e) (.reg .e) 2 s

/-- `SET 1,H` (0xCBCC), R934. -/
def execSet1H (s : State) : Result State := bitSet 1 (.reg .h) (.reg .h) 2 s

/-- `SET 1,L` (0xCBCD), R934. -/
def execSet1L (s : State) : Result State := bitSet 1 (.reg .l) (.reg .l) 2 s

/-- `SET 1,(HL)` (0xCBCE), R935. -/
def execSet1MemHL (s : State) : Result State := bitSet 1 (.ind .hl) (.ind .hl) 4 s

/-- `SET 1,A` (0xCBCF), R934. -/
def execSet1A (s : State) : Result State := bitSet 1 (.reg .a) (.reg .a) 2 s

/-- `SET 2,B` (0xCBD0), R934. -/
def execSet2B (s : State) : Result State := bitSet 2 (.reg .b) (.reg .b) 2 s

/-- `SET 2,C` (0xCBD1), R934. -/
def execSet2C (s : State) : Result State := bitSet 2 (.reg .c) (.reg .c) 2 s

/-- `SET 2,D` (0xCBD2), R934. -/
def execSet2D (s : State) : Result State := bitSet 2 (.reg .d) (.reg .d) 2 s

/-- `SET 2,E` (0xCBD3), R934. -/
def execSet2E (s : State) : Result State := bitSet 2 (.reg .e) (.reg .e) 2 s

/-- `SET 2,H` (0xCBD4), R934. -/
def execSet2H (s : State) : Result State := bitSet 2 (.reg .h) (.reg .h) 2 s

/-- `SET 2,L` (0xCBD5), R934. -/
def execSet2L (s : State) : Result State := bitSet 2 (.reg .l) (.reg .l) 2 s

/-- `SET 2,(HL)` (0xCBD6), R935. -/
def execSet2MemHL (s : State) : Result State := bitSet 2 (.ind .hl) (.ind .hl) 4 s

/-- `SET 2,A` (0xCBD7), R934. -/
def execSet2A (s : State) : Result State := bitSet 2 (.reg .a) (.reg .a) 2 s

/-- `SET 3,B` (0xCBD8), R934. -/
def execSet3B (s : State) : Result State := bitSet 3 (.reg .b) (.reg .b) 2 s

/-- `SET 3,C` (0xCBD9), R934. -/
def execSet3C (s : State) : Result State := bitSet 3 (.reg .c) (.reg .c) 2 s

/-- `SET 3,D` (0xCBDA), R934. -/
def execSet3D (s : State) : Result State := bitSet 3 (.reg .d) (.reg .d) 2 s

/-- `SET 3,E` (0xCBDB), R934. -/
def execSet3E (s : State) : Result State := bitSet 3 (.reg .e) (.reg .e) 2 s

/-- `SET 3,H` (0xCBDC), R934. -/
def execSet3H (s : State) : Result State := bitSet 3 (.reg .h) (.reg .h) 2 s

/-- `SET 3,L` (0xCBDD), R934. -/
def execSet3L (s : State) : Result State := bitSet 3 (.reg .l) (.reg .l) 2 s

/-- `SET 3,(HL)` (0xCBDE), R935. -/
def execSet3MemHL (s : State) : Result State := bitSet 3 (.ind .hl) (.ind .hl) 4 s

/-- `SET 3,A` (0xCBDF), R934. -/
def execSet3A (s : State) : Result State := bitSet 3 (.reg .a) (.reg .a) 2 s

/-- `SET 4,B` (0xCBE0), R934. -/
def execSet4B (s : State) : Result State := bitSet 4 (.reg .b) (.reg .b) 2 s

/-- `SET 4,C` (0xCBE1), R934. -/
def execSet4C (s : State) : Result State := bitSet 4 (.reg .c) (.reg .c) 2 s

/-- `SET 4,D` (0xCBE2), R934. -/
def execSet4D (s : State) : Result State := bitSet 4 (.reg .d) (.reg .d) 2 s

/-- `SET 4,E` (0xCBE3), R934. -/
def execSet4E (s : State) : Result State := bitSet 4 (.reg .e) (.reg .e) 2 s

/-- `SET 4,H` (0xCBE4), R934. -/
def execSet4H (s : State) : Result State := bitSet 4 (.reg .h) (.reg .h) 2 s

/-- `SET 4,L` (0xCBE5), R934. -/
def execSet4L (s : State) : Result State := bitSet 4 (.reg .l) (.reg .l) 2 s

/-- `SET 4,(HL)` (0xCBE6), R935. -/
def execSet4MemHL (s : State) : Result State := bitSet 4 (.ind .hl) (.ind .hl) 4 s

/-- `SET 4,A` (0xCBE7), R934. -/
def execSet4A (s : State) : Result State := bitSet 4 (.reg .a) (.reg .a) 2 s

/-- `SET 5,B` (0xCBE8), R934. -/
def execSet5B (s : State) : Result State := bitSet 5 (.reg .b) (.reg .b) 2 s

/-- `SET 5,C` (0xCBE9), R934. -/
def execSet5C (s : State) : Result State := bitSet 5 (.reg .c) (.reg .c) 2 s

/-- `SET 5,D` (0xCBEA), R934. -/
def execSet5D (s : State) : Result State := bitSet 5 (.reg .d) (.reg .d) 2 s

/-- `SET 5,E` (0xCBEB), R934. -/
def execSet5E (s : State) : Result State := bitSet 5 (.reg .e) (.reg .e) 2 s

/-- `SET 5,H` (0xCBEC), R934. -/
def execSet5H (s : State) : Result State := bitSet 5 (.reg .h) (.reg .h) 2 s

/-- `SET 5,L` (0xCBED), R934. -/
def execSet5L (s : State) : Result State := bitSet 5 (.reg .l) (.reg .l) 2 s

/-- `SET 5,(HL)` (0xCBEE), R935. -/
def execSet5MemHL (s : State) : Result State := bitSet 5 (.ind .hl) (.ind .hl) 4 s

/-- `SET 5,A` (0xCBEF), R934. -/
def execSet5A (s : State) : Result State := bitSet 5 (.reg .a) (.reg .a) 2 s

/-- `SET 6,B` (0xCBF0), R934. -/
def execSet6B (s : State) : Result State := bitSet 6 (.reg .b) (.reg .b) 2 s

/-- `SET 6,C` (0xCBF1), R934. -/
def execSet6C (s : State) : Result State := bitSet 6 (.reg .c) (.reg .c) 2 s

/-- `SET 6,D` (0xCBF2), R934. -/
def execSet6D (s : State) : Result State := bitSet 6 (.reg .d) (.reg .d) 2 s

/-- `SET 6,E` (0xCBF3), R934. -/
def execSet6E (s : State) : Result State := bitSet 6 (.reg .e) (.reg .e) 2 s

/-- `SET 6,H` (0xCBF4), R934. -/
def execSet6H (s : State) : Result State := bitSet 6 (.reg .h) (.reg .h) 2 s

/-- `SET 6,L` (0xCBF5), R934. -/
def execSet6L (s : State) : Result State := bitSet 6 (.reg .l) (.reg .l) 2 s

/-- `SET 6,(HL)` (0xCBF6), R935. -/
def execSet6MemHL (s : State) : Result State := bitSet 6 (.ind .hl) (.ind .hl) 4 s

/-- `SET 6,A` (0xCBF7), R934. -/
def execSet6A (s : State) : Result State := bitSet 6 (.reg .a) (.reg .a) 2 s

/-- `SET 7,B` (0xCBF8), R934. -/
def execSet7B (s : State) : Result State := bitSet 7 (.reg .b) (.reg .b) 2 s

/-- `SET 7,C` (0xCBF9), R934. -/
def execSet7C (s : State) : Result State := bitSet 7 (.reg .c) (.reg .c) 2 s

/-- `SET 7,D` (0xCBFA), R934. -/
def execSet7D (s : State) : Result State := bitSet 7 (.reg .d) (.reg .d) 2 s

/-- `SET 7,E` (0xCBFB), R934. -/
def execSet7E (s : State) : Result State := bitSet 7 (.reg .e) (.reg .e) 2 s

/-- `SET 7,H` (0xCBFC), R934. -/
def execSet7H (s : State) : Result State := bitSet 7 (.reg .h) (.reg .h) 2 s

/-- `SET 7,L` (0xCBFD), R934. -/
def execSet7L (s : State) : Result State := bitSet 7 (.reg .l) (.reg .l) 2 s

/-- `SET 7,(HL)` (0xCBFE), R935. -/
def execSet7MemHL (s : State) : Result State := bitSet 7 (.ind .hl) (.ind .hl) 4 s

/-- `SET 7,A` (0xCBFF), R934. -/
def execSet7A (s : State) : Result State := bitSet 7 (.reg .a) (.reg .a) 2 s

end Sys2Proof.Machine
end

