-- ==== Sys2Proof/Machine/System.lean ====
section
/-! DEFINITION. The system instructions (R1100 to R1105) and the unassigned opcodes (R1201). -/
namespace Sys2Proof.Machine

/-- `HALT` (R1102); `irq` is the answer of `pending_interrupt()` of this step (R435). -/
def halt (cost : Nat) (s : State) : Result State :=
  if !s.ime && s.irq.isSome then .refused (.haltBug (s.refused .haltBug))
  else charge cost { s with halted := true }

/-- `STOP` (R1103): refused after the opcode fetch. -/
def stop (s : State) : Result State := .refused (.stop (s.refused .stop))

/-- `DI` (R1104). -/
def disableInterrupts (cost : Nat) (s : State) : Result State :=
  charge cost { s with ime := false, imeSched := false }

/-- `EI` (R1105): IME follows at the end of the next instruction (R425). -/
def enableInterrupts (cost : Nat) (s : State) : Result State := charge cost { s with imeSched := true }

/-- A primary lookup that misses (R1201): `pc` has passed the opcode, so it was fetched from one below. -/
def decodeFailure (opcode : Byte) (s : State) : Result State :=
  .fault (.decodeFailure opcode (s.pc - 1) (s.faulted (.decodeFailure opcode (s.pc - 1))))

/-- `NOP` (0x00), R1100. -/
def execNop (s : State) : Result State := charge 1 s

/-- `STOP` (0x10), R1103. -/
def execStop (s : State) : Result State := stop s

/-- `HALT` (0x76), R1102. -/
def execHalt (s : State) : Result State := halt 1 s

/-- `PREFIX CB` (0xCB), R1101. -/
def execPrefixCB (op2 : Byte) (s : State) : Result State := runExtended op2 s

/-- the 11 unassigned bytes, R1201. -/
def execUnassigned (opcode : Byte) (s : State) : Result State := decodeFailure opcode s

/-- `DI` (0xF3), R1104. -/
def execDi (s : State) : Result State := disableInterrupts 1 s

/-- `EI` (0xFB), R1105. -/
def execEi (s : State) : Result State := enableInterrupts 1 s

end Sys2Proof.Machine
end

