-- ==== Sys2Proof/Machine/Engine.lean ====
section
/-! DEFINITION. The Instruction Engine and the Cycle Scheduler (R420 to R436): fetching an instruction,
running it, one step at a boundary, one tick of the machine; `load_program` (R1310) and the end of a run (R1340). -/
namespace Sys2Proof.Machine

/-- A source register that is resolved before the stream bytes (R410) must have been written (R1202). -/
def checkBefore (names : List RegName) (s : State) : Result State := checked names s s

/-- The bytes of one instruction, fetched in order (R420): the opcode, the extended opcode after the
prefix, and the stream bytes its descriptors consume (R403, R407, R408). -/
def fetchInstr (s : State) : Result (Instr × State) :=
  (fetch8 s).andThen fun (opcode, s1) =>
  match lookupPrimary opcode with
  | .op i => .next (i, s1)
  | .miss => .next (.unassigned opcode, s1)
  | .opPad i => .next (i, s1)
  | .extend => (fetch8 s1).andThen fun (op2, s2) => .next (lookupExtended op2, s2)
  | .op8 before f =>
    (checkBefore before s1).andThen fun s2 => (fetch8 s2).andThen fun (n, s3) => .next (f n, s3)
  | .op16 before f =>
    (checkBefore before s1).andThen fun s2 => (fetch16 s2).andThen fun (n, s3) => .next (f n, s3)

/-- Whether the instruction is `DI`, which the promotion leaves out (R425). -/
def isDI (i : Instr) : Bool :=
  match i with
  | .di => true
  | _ => false

/-- The end of an instruction (R425): if `ime_sched` was 1 when it began and it is not `DI`, IME
becomes 1 and `ime_sched` 0. -/
def promoteIme (sched : Bool) (i : Instr) (s : State) : State :=
  if sched && !isDI i then { s with ime := true, imeSched := false } else s

/-- `ExecuteInstruction` (R420). -/
def executeInstruction (s : State) : Result State :=
  (fetchInstr s).andThen fun (i, s1) =>
  Result.andThen (exec i s1) fun s2 => .next (promoteIme s.imeSched i s2)

/-- `step()` past the halted wait (R421): interrupt entry, or the next instruction. -/
def serviceOrExecute (s : State) : Result State :=
  if s.ime then
    match s.irq with
    | some src => interruptEntry src s
    | none => executeInstruction s
  else executeInstruction s

/-- What a waking step leaves: a DecodeFailure leaves `halted` at the value given, and any other outcome
stands. -/
def haltedAtFailure (h : Bool) (x : Result State) : Result State :=
  match x with
  | .fault (.decodeFailure opcode addr final) => .fault (.decodeFailure opcode addr { final with halted := h })
  | other => other

/-- `step()` at a boundary (R421): a halted wait costs 1 and does nothing else; a pending interrupt
wakes the core whatever IME is (R132), but that `halted` is free where the waking step ends in a
DecodeFailure (R1201): DESIGN CHOICE of log entry 23. `irq` is the one answer of `pending_interrupt()`
(R435). -/
def boundaryStep (s : State) : Result State :=
  if s.halted then
    match s.irq with
    | none => charge 1 s
    | some _ => haltedAtFailure (Config.haltedAtFailure s.tick) (serviceOrExecute { s with halted := false })
  else serviceOrExecute s

/-- `cpu_tick()` of a running session (R430): count down, or run a whole step. -/
def cpuTick (s : State) : Result State :=
  match s.remaining with
  | k + 1 => .next { s with remaining := k }
  | 0 => boundaryStep s

/-- The rest of a tick (R431): the five collaborators advance, of which Interrupt-dispatch renews its
answer for the next tick (log entry 4), and the DMA window counts down (R137). -/
def advance (s : State) : State :=
  { s with
    irq := Config.pendingAnswer (s.tick + 1)
    dmaWindow := s.dmaWindow - 1
    tick := s.tick + 1 }

/-- `step_cycle()` (R431), one tick. A session that has ended changes no more (R430, R433). -/
def stepCycle (s : State) : Result State :=
  match s.status with
  | .running => (cpuTick s).andThen fun t => .next (advance t)
  | .faulted _ => .next s
  | .refused _ => .next s

/-- Store bytes at consecutive addresses from `base` on. -/
def storeBytes (m : List Host.Cell) (base : Nat) (bytes : List Byte) : List Host.Cell :=
  match bytes with
  | [] => m
  | b :: rest => storeBytes (Memory.store m base b) (base + 1) rest

/-- No tick has run (R1310): a first tick that ends the session does not advance `tick` (R433), but
leaves a status other than Running. -/
abbrev State.BeforeFirstTick (s : State) : Prop := s.tick = 0 ∧ s.status = .running

/-- `load_program(bytes, base_address)` (R1310): it writes `ROM_IMAGE` only, before the first tick, and
a call past 0x8000 is rejected whole. -/
def State.loadProgram (s : State) (bytes : List Byte) (base : Nat) : Option State :=
  if s.BeforeFirstTick ∧ base + bytes.length ≤ 0x8000 then
    some { s with mem := storeBytes s.mem base bytes }
  else none

/-- The state before each tick of a run (R434): after `n` ticks, or the reason the session ended. -/
def State.afterTicks (s : State) : Nat → Result State
  | 0 => .next s
  | n + 1 => (stepCycle s).andThen fun t => t.afterTicks n

/-- A step boundary at which a run ends if none came before it (R1340): no tick owed, the session
running, not halted, and pc at `endPc`, the launch parameter `END_PC`. -/
def State.atEnd (s : State) (endPc : Word) : Bool :=
  decide (s.remaining = 0) && decide (s.status = .running) && !s.halted && decide (s.pc = endPc)

/-- The end state of the run from `s` (R1340): the state at the first boundary that is an end, if one
is reached within `n` ticks. A run whose session faults or is refused has none. -/
def State.endState (endPc : Word) : Nat → State → Option State
  | 0, s => if s.atEnd endPc then some s else none
  | n + 1, s =>
    if s.atEnd endPc then some s
    else
      match stepCycle s with
      | .next t => State.endState endPc n t
      | .fault _ => none
      | .refused _ => none

/-- Whether a byte placed at the address is what a fetch there reads: ROM, WRAM, its echo and HRAM. -/
def fetchable (addr : Word) : Bool :=
  match region addr with
  | .rom => true
  | .wram => true
  | .echo => true
  | .hram => true
  | .vram => false
  | .cartRam => false
  | .oam => false
  | .unusable => false
  | .io => false
  | .ie => false

/-- Where the next instruction can stand: at `pc` where three bytes there can be fetched, else at the
start of WRAM (log entry 15). -/
def placeFor (pc : Word) : Word :=
  if fetchable pc && fetchable (pc + 1) && fetchable (pc + 2) then pc else 0xC000#16

/-- The state with three bytes where the next step fetches, at a boundary that fetches: the session
running, no ticks owed, not halted, no interrupt pending, no DMA window. -/
def placeInstr (s : State) (b0 b1 b2 : Byte) : State :=
  let at_ := placeFor s.pc
  { s with
    pc := at_
    mem := Memory.store (Memory.store (Memory.store s.mem (cellOf at_) b0) (cellOf (at_ + 1)) b1)
      (cellOf (at_ + 2)) b2
    status := .running
    remaining := 0
    halted := false
    dmaWindow := 0
    irq := none }

/-- Place a table word where the next step fetches it. -/
def placeTableWord (s : State) (nbits w : Nat) : State :=
  match tableWordBytes nbits w with
  | [b0, b1, b2] => placeInstr s b0 b1 b2
  | _ => s

end Sys2Proof.Machine
end

