-- ==== Sys2Proof/Machine/Step.lean ====
section
/-! DEFINITION. One step of the machine is one call of `step_cycle()`, the host's only way to advance it
(R434). -/
namespace Sys2Proof.Machine

/-- One tick of the machine (R431, R434). -/
def step (s : State) : Host.Outcome State Fault Refusal := stepCycle s

/-- `s` with a table word stored where the next step fetches its instruction. -/
def State.withFetchWord (s : State) (nbits w : Nat) : State := placeTableWord s nbits w

end Sys2Proof.Machine
end

