-- ==== Sys2Proof/Safety.lean ====
section
/-! DEFINITION. The terms in which claims speak of the machine: which slots hold a value, when a bus
access is admitted, what an operand form reads and leaves, what an instruction may write, the
invariants of every step, and the state the end of a session leaves. -/
namespace Sys2Proof.Machine

open Sys2Proof

/-! ### Slots and accesses -/

/-- Every named slot holds a value: a write has reached it since reset (R141). -/
def State.Holds (s : State) (names : List RegName) : Prop := ∀ n ∈ names, n ∉ s.unwritten

/-- Every slot holds a value, as under `post_boot` (R140). -/
abbrev State.AllWritten (s : State) : Prop := s.unwritten = []

/-- The bus admits an access to the address now (R228). -/
abbrev State.Admits (s : State) (addr : Word) : Prop := s.busBlocked addr = false

/-- The rest of an instruction once its rule is done: `cost - 1` ticks are owed (R430). -/
abbrev State.owing (s : State) (ticks : Nat) : State := { s with remaining := ticks }

/-! ### What operand forms read, need and leave -/

/-- The slots a source form reads (R403 to R408). -/
def srcNames : Src8 → List RegName
  | .imm8 _ => []
  | .reg r => [regName r]
  | .ind rr => reg16Names (indReg16 rr)
  | .indhiC => [.c]
  | .ind16 _ => []
  | .indhi8 _ => []

/-- The slots a target form reads (R404 to R408). -/
def tgtNames : Tgt8 → List RegName
  | .reg _ => []
  | .ind rr => reg16Names (indReg16 rr)
  | .indhiC => [.c]
  | .ind16 _ => []
  | .indhi8 _ => []

/-- The slots a condition reads (R1000). -/
def condNames : Cond → List RegName
  | .nz => [.fz]
  | .z => [.fz]
  | .nc => [.fc]
  | .c => [.fc]

/-- Every address of a list that may be empty is admitted. -/
def State.AdmitsOpt (s : State) (addr : Option Word) : Prop := ∀ a ∈ addr, s.Admits a

/-- The byte a source form copies (R401). -/
def State.srcVal (s : State) (src : Src8) : Byte :=
  match src with
  | .imm8 n => n
  | .reg r => s.reg8 r
  | .ind rr => s.readVal (s.reg16 (indReg16 rr))
  | .indhiC => s.readVal (highPage s.c)
  | .ind16 a => s.readVal a
  | .indhi8 a => s.readVal (highPage a)

/-- The state after a source form has been resolved: after its one bus read, if it makes one. -/
def State.afterSrc (s : State) (src : Src8) : State :=
  match srcAddr src s with
  | none => s
  | some a => s.afterRead a

/-- The state after a target form has taken its one write. -/
def State.afterTgt (s : State) (tgt : Tgt8) (v : Byte) : State :=
  match tgt with
  | .reg r => s.setReg8 r v
  | .ind rr => s.afterWrite (s.reg16 (indReg16 rr)) v
  | .indhiC => s.afterWrite (highPage s.c) v
  | .ind16 a => s.afterWrite a v
  | .indhi8 a => s.afterWrite (highPage a) v

/-- The Writable Handle a target form resolves to (R402, R404 to R408). -/
def State.handleOf (s : State) (tgt : Tgt8) : Handle8 :=
  match tgt with
  | .reg r => .reg r
  | .ind rr => .addr (s.reg16 (indReg16 rr))
  | .indhiC => .addr (highPage s.c)
  | .ind16 a => .addr a
  | .indhi8 a => .addr (highPage a)

/-! ### The stack and 16-bit stores -/

/-- `Push16` completes: SP holds a value, both bytes are admitted, and the first write does not itself
open the DMA window in front of the second (R228). -/
abbrev State.PushReady (s : State) : Prop :=
  s.Holds [.sp] ∧ s.Admits (s.sp - 1) ∧ s.Admits (s.sp - 2) ∧ s.sp ≠ 0xFF47#16

/-- The state after `Push16(v)` (R10): the high byte below SP, the low byte below that, SP two lower. -/
def State.afterPush (s : State) (v : Word) : State :=
  let s1 := (s.setReg16 .sp (s.sp - 1)).afterWrite (s.sp - 1) (hiByte v)
  (s1.setReg16 .sp (s.sp - 2)).afterWrite (s.sp - 2) (loByte v)

/-- `Pop16` completes: SP holds a value and both bytes are admitted. -/
abbrev State.PopReady (s : State) : Prop :=
  s.Holds [.sp] ∧ s.Admits s.sp ∧ s.Admits (s.sp + 1)

/-- The word `Pop16` gives (R10): the low byte at SP, then the high byte above it. -/
def State.popVal (s : State) : Word :=
  wordOf ((s.afterRead s.sp).readVal (s.sp + 1)) (s.readVal s.sp)

/-- The state after `Pop16` (R10): both bytes read, SP two higher. -/
def State.afterPop (s : State) : State :=
  let s1 := (s.afterRead s.sp).setReg16 .sp (s.sp + 1)
  (s1.afterRead (s.sp + 1)).setReg16 .sp (s.sp + 2)

/-- A 16-bit store at `addr` completes: both bytes are admitted, and the first does not itself open the
DMA window in front of the second (R213, R228). -/
abbrev State.Store16Ready (s : State) (addr : Word) : Prop :=
  s.Admits addr ∧ s.Admits (addr + 1) ∧ addr ≠ 0xFF46#16

/-! ### Fetching -/

/-- `n` stream bytes, fetched in order, and the state after them (R10). -/
def fetchBytes : Nat → State → Result (List Byte × State)
  | 0, s => .next ([], s)
  | n + 1, s =>
    (fetch8 s).andThen fun (b, s1) =>
    (fetchBytes n s1).andThen fun (bs, s2) => .next (b :: bs, s2)

/-- How many bytes a step fetches for an instruction: its length (R300), but `STOP`'s second byte is not
fetched (R1103). -/
def fetchLength (i : Instr) : Nat :=
  match i with
  | .stop => 1
  | _ => (tableRow i).length

/-- The slots a source register descriptor reads before the stream bytes are fetched (R410). -/
def sourcesBefore (i : Instr) : List RegName :=
  match i with
  | .ldhMemA8A _ => [.a]
  | .ldMemA16A _ => [.a]
  | .ldMemA16SP _ => [.sp]
  | _ => []

/-- The session runs, is at a boundary, and the boundary runs an instruction: not halted, no interrupt
to enter (R421). -/
abbrev State.RunsInstruction (s : State) : Prop :=
  s.status = .running ∧ s.remaining = 0 ∧ s.halted = false ∧ (s.ime = false ∨ s.irq = none)

/-! ### What an instruction may write -/

/-- The byte after the opcode of an instruction's encoding. -/
def operandByte (i : Instr) : Byte := (encode i).getD 1 0x00

/-- The word after the opcode of an instruction's encoding (R310). -/
def operandWord (i : Instr) : Word := wordOf ((encode i).getD 2 0x00) (operandByte i)

/-- The address a memory target of a row stores to, by the formulas of R405 to R408. -/
def targetAddr (i : Instr) (s : State) : TargetDescriptor → Option Word
  | .reg _ => none
  | .ind rr => some (s.reg16 (indReg16 rr))
  | .indhiC => some (highPage s.c)
  | .ind16 => some (operandWord i)
  | .indhi8 => some (highPage (operandByte i))

/-- Whether the instruction pushes, given the flags (R610, R1020, R1021, R1040). -/
def pushes (i : Instr) (f : Flags) : Bool :=
  match i with
  | .pushBC | .pushDE | .pushHL | .pushAF => true
  | .callA16 _ => true
  | .callNZA16 _ => condOf .nz f
  | .callZA16 _ => condOf .z f
  | .callNCA16 _ => condOf .nc f
  | .callCA16 _ => condOf .c f
  | .rst00 | .rst08 | .rst10 | .rst18 | .rst20 | .rst28 | .rst30 | .rst38 => true
  | _ => false

/-- Whether the instruction pops, given the flags (R611, R1030 to R1032). -/
def pops (i : Instr) (f : Flags) : Bool :=
  match i with
  | .popBC | .popDE | .popHL | .popAF => true
  | .ret => true
  | .reti => true
  | .retNZ => condOf .nz f
  | .retZ => condOf .z f
  | .retNC => condOf .nc f
  | .retC => condOf .c f
  | _ => false

/-- The addresses an instruction stores a byte to: those of its memory targets, the byte above for
`LD (a16),SP` (R601), and the two stack bytes of a push (R10). -/
def storedAddrs (i : Instr) (s : State) : List Word :=
  (tableRow i).targets.filterMap (targetAddr i s) ++
    (match i with
      | .ldMemA16SP n => [n + 1]
      | _ => []) ++
    (if pushes i s.flags then [s.sp - 1, s.sp - 2] else [])

/-- The 8-bit registers that are part of a register a descriptor names. -/
def AnyReg.parts : AnyReg → List Reg8
  | .a => [.a]
  | .b => [.b]
  | .c => [.c]
  | .d => [.d]
  | .e => [.e]
  | .h => [.h]
  | .l => [.l]
  | .af => [.a]
  | .bc => [.b, .c]
  | .de => [.d, .e]
  | .hl => [.h, .l]
  | .sp => []

/-- The 8-bit registers a target descriptor writes. -/
def targetRegs : TargetDescriptor → List Reg8
  | .reg r => AnyReg.parts r
  | .ind _ => []
  | .indhiC => []
  | .ind16 => []
  | .indhi8 => []

/-- The fields x, y and z of the first byte (R302). -/
def fieldsOf (op : Byte) : Nat × Nat × Nat := (op.toNat / 64, op.toNat / 8 % 8, op.toNat % 8)

/-- Whether the first byte is one of an 8-bit ALU operation (R306). -/
def isAluByte (op : Byte) : Bool :=
  match fieldsOf op with
  | (2, _, _) => true
  | (3, _, 6) => true
  | _ => false

/-- The 8-bit registers an instruction may write: its targets, HL where the handler steps it (R507 to
R510), and A for the ALU operations other than CP (R306, R731). -/
def writtenRegs (i : Instr) : List Reg8 :=
  (tableRow i).targets.flatMap targetRegs ++
    (match i with
      | .ldAMemHLInc | .ldAMemHLDec | .ldMemHLIncA | .ldMemHLDecA => [.h, .l]
      | _ => []) ++
    (match encode i with
      | op :: _ => if isAluByte op && (fieldsOf op).2.1 != 7 then [.a] else []
      | [] => [])

/-- Whether an instruction may write SP (R104). -/
def writesSp (i : Instr) (f : Flags) : Bool :=
  (tableRow i).targets.contains (.reg .sp) || pushes i f || pops i f

/-- The four flags, each written (`true`) or unchanged. -/
structure FlagSet where
  z : Bool
  n : Bool
  h : Bool
  c : Bool
  deriving DecidableEq, Repr

/-- The flags an instruction writes, by its bytes, as the flag summary of the spec lists them (R122 to
R125). -/
def flagsWritten (i : Instr) : FlagSet :=
  match encode i with
  | 0xCB :: op2 :: _ =>
    match fieldsOf op2 with
    | (0, _, _) => ⟨true, true, true, true⟩
    | (1, _, _) => ⟨true, true, true, false⟩
    | _ => ⟨false, false, false, false⟩
  | op :: _ =>
    if isAluByte op || op == 0xE8 || op == 0xF8 || op == 0xF1 then ⟨true, true, true, true⟩
    else
      match fieldsOf op with
      | (0, _, 4) => ⟨true, true, true, false⟩
      | (0, _, 5) => ⟨true, true, true, false⟩
      | (0, 4, 7) => ⟨true, false, true, true⟩
      | (0, 5, 7) => ⟨false, true, true, false⟩
      | (0, 6, 7) => ⟨false, true, true, true⟩
      | (0, 7, 7) => ⟨false, true, true, true⟩
      | (0, _, 7) => ⟨true, true, true, true⟩
      | (0, y, 1) => if y % 2 = 1 then ⟨false, true, true, true⟩ else ⟨false, false, false, false⟩
      | _ => ⟨false, false, false, false⟩
  | [] => ⟨false, false, false, false⟩

/-- Whether an instruction may write pc beyond the fetch (R112). -/
def writesPc (i : Instr) : Bool :=
  match i with
  | .jpA16 _ | .jpHL | .jpNZA16 _ | .jpZA16 _ | .jpNCA16 _ | .jpCA16 _ => true
  | .jrE8 _ | .jrNZE8 _ | .jrZE8 _ | .jrNCE8 _ | .jrCE8 _ => true
  | .callA16 _ | .callNZA16 _ | .callZA16 _ | .callNCA16 _ | .callCA16 _ => true
  | .ret | .reti | .retNZ | .retZ | .retNC | .retC => true
  | .rst00 | .rst08 | .rst10 | .rst18 | .rst20 | .rst28 | .rst30 | .rst38 => true
  | _ => false

/-- The address of the first bus access of an instruction's rule, if it makes one: the memory source,
else the memory target, else the stack. -/
def firstAccess (i : Instr) (s : State) : Option Word :=
  let sourceAddr : SourceDescriptor → Option Word
    | .ind rr => some (s.reg16 (indReg16 rr))
    | .indhiC => some (highPage s.c)
    | .ind16 => some (operandWord i)
    | .indhi8 => some (highPage (operandByte i))
    | .imm8 => none
    | .imm16 => none
    | .reg _ => none
  ((tableRow i).sources.filterMap sourceAddr ++ (tableRow i).targets.filterMap (targetAddr i s) ++
    (if pushes i s.flags then [s.sp - 1] else []) ++ (if pops i s.flags then [s.sp] else [])).head?

/-- The address of the second bus access of an instruction that makes two to different addresses: the
byte above for `LD (a16),SP` (R601), the second stack byte of a push or a pop (R10). -/
def secondAccess (i : Instr) (s : State) : Option Word :=
  match i with
  | .ldMemA16SP n => some (n + 1)
  | _ =>
    if pushes i s.flags then some (s.sp - 2)
    else if pops i s.flags then some (s.sp + 1)
    else none

/-! ### Invariants -/

/-- Whether the cell of an address is storage of the CORE: ROM, VRAM, WRAM, OAM or HRAM (R202). The
echo range has no cell of its own, and the other ranges keep nothing. -/
def isStorage (n : Nat) : Bool :=
  decide (n < 0xA000) || (decide (0xC000 ≤ n) && decide (n < 0xE000)) ||
    (decide (0xFE00 ≤ n) && decide (n < 0xFEA0)) || (decide (0xFF80 ≤ n) && decide (n < 0xFFFF))

/-- The memory list is in its canonical form and lists storage cells only. -/
abbrev State.MemoryInv (s : State) : Prop :=
  Memory.wf s.mem ∧ ∀ x ∈ s.mem, isStorage x.1 = true

/-- The counters are in the ranges of R133 and R137. -/
abbrev State.CountersInv (s : State) : Prop := s.remaining ≤ 5 ∧ s.dmaWindow ≤ Config.dmaWindow

/-- What every step keeps. -/
abbrev State.Inv (s : State) : Prop := s.MemoryInv ∧ s.CountersInv

/-! ### The end of a session -/

/-- The state a fault leaves the session in (R433). -/
def Fault.final : Fault → State
  | .decodeFailure _ _ s => s
  | .uninitialisedRead _ s => s

/-- The state a refusal leaves the session in (R433); a rejection by name leaves none. -/
def Refusal.final : Refusal → Option State
  | .haltBug s => some s
  | .stop s => some s
  | .dmaBusConflict s => some s
  | .dispatchPushToIE s => some s
  | _ => none

/-- The byte is stored where the next instruction's fetch reads it and nothing intervenes: a ROM, WRAM,
echo or HRAM address that holds it (R220 to R224). -/
abbrev State.PlainByte (s : State) (addr : Word) (v : Byte) : Prop :=
  fetchable addr = true ∧ s.stored addr = some v

/-- An address of WRAM, its echo or HRAM: plain storage that can be written (R223, R224). -/
def isRam (addr : Word) : Bool :=
  match region addr with
  | .wram => true
  | .echo => true
  | .hram => true
  | .rom => false
  | .vram => false
  | .cartRam => false
  | .oam => false
  | .unusable => false
  | .io => false
  | .ie => false

end Sys2Proof.Machine
end

