-- ==== Sys2Proof/Certificates/Slice0/Obligations.lean ====
section
/-! DEFINITION. The statements for the provers, each from the numbered rules its docstring names. A
statement about an instruction gives its encoding by fields (R302 to R309), its row of the table
(descriptors, length, costs), and the next state exec answers, under conditions on the state and the
operands alone: the slots it reads hold values (R141; always so under `post_boot`) and the bus admits
its accesses (R228). `pc` has passed the instruction's bytes when exec runs (R11). Everything a next
state does not mention is unchanged: it is the old state with the named writes. -/

open Sys2Proof Sys2Proof.Machine

/-! ### 8-bit loads -/

/-- R500. -/
def Obligations.LoadRegisterFromRegister : Prop :=
  ∀ (dst src : Reg8) (s : State),
    encode (ldRegReg dst src) = [opByte 1 dst.code src.code] ∧
    tableRow (ldRegReg dst src) = row [.reg src.any] [.reg dst.any] 1 1 ∧
    (s.Holds [regName src] → exec (ldRegReg dst src) s = .next ((s.setReg8 dst (s.reg8 src)).owing 0))

/-- R501. -/
def Obligations.LoadRegisterImmediate : Prop :=
  ∀ (dst : Reg8) (n : Byte) (s : State),
    encode (ldRegN8 dst n) = [opByte 0 dst.code 6, n] ∧
    tableRow (ldRegN8 dst n) = row [.imm8] [.reg dst.any] 2 2 ∧
    exec (ldRegN8 dst n) s = .next ((s.setReg8 dst n).owing 1)

/-- R502, R503, R504: the forms that read or write the byte at HL. -/
def Obligations.LoadThroughHL : Prop :=
  ∀ (r : Reg8) (n : Byte) (s : State),
    encode (ldRegMem r) = [opByte 1 r.code 6] ∧ encode (ldMemReg r) = [opByte 1 6 r.code] ∧
    encode (.ldMemHLN8 n) = [0x36, n] ∧
    tableRow (ldRegMem r) = row [.ind .hl] [.reg r.any] 1 2 ∧
    tableRow (ldMemReg r) = row [.reg r.any] [.ind .hl] 1 2 ∧
    tableRow (.ldMemHLN8 n) = row [.imm8] [.ind .hl] 2 3 ∧
    (s.Holds [.h, .l] → s.Admits (s.reg16 .hl) →
      exec (ldRegMem r) s =
        .next (((s.afterRead (s.reg16 .hl)).setReg8 r (s.readVal (s.reg16 .hl))).owing 1)) ∧
    (s.Holds [regName r, .h, .l] → s.Admits (s.reg16 .hl) →
      exec (ldMemReg r) s = .next ((s.afterWrite (s.reg16 .hl) (s.reg8 r)).owing 1)) ∧
    (s.Holds [.h, .l] → s.Admits (s.reg16 .hl) →
      exec (.ldMemHLN8 n) s = .next ((s.afterWrite (s.reg16 .hl) n).owing 2))

/-- R505, R506, R515, R516: A through BC, DE and an absolute address. -/
def Obligations.LoadAccumulatorIndirect : Prop :=
  ∀ (n : Word) (s : State),
    encode .ldAMemBC = [opByte 0 1 2] ∧ encode .ldAMemDE = [opByte 0 3 2] ∧
    encode .ldMemBCA = [opByte 0 0 2] ∧ encode .ldMemDEA = [opByte 0 2 2] ∧
    encode (.ldMemA16A n) = [0xEA, loByte n, hiByte n] ∧
    encode (.ldAMemA16 n) = [0xFA, loByte n, hiByte n] ∧
    tableRow .ldAMemBC = row [.ind .bc] [.reg .a] 1 2 ∧ tableRow .ldAMemDE = row [.ind .de] [.reg .a] 1 2 ∧
    tableRow .ldMemBCA = row [.reg .a] [.ind .bc] 1 2 ∧ tableRow .ldMemDEA = row [.reg .a] [.ind .de] 1 2 ∧
    tableRow (.ldMemA16A n) = row [.reg .a] [.ind16] 3 4 ∧
    tableRow (.ldAMemA16 n) = row [.ind16] [.reg .a] 3 4 ∧
    (s.Holds [.b, .c] → s.Admits (s.reg16 .bc) →
      exec .ldAMemBC s =
        .next (((s.afterRead (s.reg16 .bc)).setReg8 .a (s.readVal (s.reg16 .bc))).owing 1)) ∧
    (s.Holds [.d, .e] → s.Admits (s.reg16 .de) →
      exec .ldAMemDE s =
        .next (((s.afterRead (s.reg16 .de)).setReg8 .a (s.readVal (s.reg16 .de))).owing 1)) ∧
    (s.Holds [.a, .b, .c] → s.Admits (s.reg16 .bc) →
      exec .ldMemBCA s = .next ((s.afterWrite (s.reg16 .bc) s.a).owing 1)) ∧
    (s.Holds [.a, .d, .e] → s.Admits (s.reg16 .de) →
      exec .ldMemDEA s = .next ((s.afterWrite (s.reg16 .de) s.a).owing 1)) ∧
    (s.Holds [.a] → s.Admits n → exec (.ldMemA16A n) s = .next ((s.afterWrite n s.a).owing 3)) ∧
    (s.Admits n → exec (.ldAMemA16 n) s = .next (((s.afterRead n).setReg8 .a (s.readVal n)).owing 3))

/-- R507 to R510: the access uses the old HL, which then steps by one, wrapping. -/
def Obligations.LoadAndStepHL : Prop :=
  ∀ (s : State),
    encode .ldMemHLIncA = [0x22] ∧ encode .ldAMemHLInc = [0x2A] ∧ encode .ldMemHLDecA = [0x32] ∧
    encode .ldAMemHLDec = [0x3A] ∧
    tableRow .ldMemHLIncA = row [.reg .a] [.ind .hl] 1 2 ∧ tableRow .ldAMemHLInc = row [.ind .hl] [.reg .a] 1 2 ∧
    tableRow .ldMemHLDecA = row [.reg .a] [.ind .hl] 1 2 ∧ tableRow .ldAMemHLDec = row [.ind .hl] [.reg .a] 1 2 ∧
    (s.Holds [.h, .l] → s.Admits (s.reg16 .hl) →
      exec .ldAMemHLInc s =
        .next ((((s.afterRead (s.reg16 .hl)).setReg8 .a (s.readVal (s.reg16 .hl))).setReg16 .hl
          (s.reg16 .hl + 1)).owing 1) ∧
      exec .ldAMemHLDec s =
        .next ((((s.afterRead (s.reg16 .hl)).setReg8 .a (s.readVal (s.reg16 .hl))).setReg16 .hl
          (s.reg16 .hl - 1)).owing 1)) ∧
    (s.Holds [.a, .h, .l] → s.Admits (s.reg16 .hl) →
      exec .ldMemHLIncA s =
        .next (((s.afterWrite (s.reg16 .hl) s.a).setReg16 .hl (s.reg16 .hl + 1)).owing 1) ∧
      exec .ldMemHLDecA s =
        .next (((s.afterWrite (s.reg16 .hl) s.a).setReg16 .hl (s.reg16 .hl - 1)).owing 1))

/-- R511 to R514, R322: the high page, whose sum never carries past 0xFFFF. -/
def Obligations.LoadHighPage : Prop :=
  ∀ (n : Byte) (s : State),
    (highPage n).toNat = 0xFF00 + n.toNat ∧
    encode (.ldhMemA8A n) = [0xE0, n] ∧ encode (.ldhAMemA8 n) = [0xF0, n] ∧ encode .ldMemCA = [0xE2] ∧
    encode .ldAMemC = [0xF2] ∧
    tableRow (.ldhMemA8A n) = row [.reg .a] [.indhi8] 2 3 ∧ tableRow (.ldhAMemA8 n) = row [.indhi8] [.reg .a] 2 3 ∧
    tableRow .ldMemCA = row [.reg .a] [.indhiC] 1 2 ∧ tableRow .ldAMemC = row [.indhiC] [.reg .a] 1 2 ∧
    (s.Holds [.a] → s.Admits (highPage n) →
      exec (.ldhMemA8A n) s = .next ((s.afterWrite (highPage n) s.a).owing 2)) ∧
    (s.Admits (highPage n) →
      exec (.ldhAMemA8 n) s =
        .next (((s.afterRead (highPage n)).setReg8 .a (s.readVal (highPage n))).owing 2)) ∧
    (s.Holds [.a, .c] → s.Admits (highPage s.c) →
      exec .ldMemCA s = .next ((s.afterWrite (highPage s.c) s.a).owing 1)) ∧
    (s.Holds [.c] → s.Admits (highPage s.c) →
      exec .ldAMemC s =
        .next (((s.afterRead (highPage s.c)).setReg8 .a (s.readVal (highPage s.c))).owing 1))

/-! ### 16-bit loads and the stack -/

/-- R600, R601, R603, and R228 for R601's second byte: a store whose first byte goes to 0xFF46 is refused
at its second. -/
def Obligations.LoadPairAndStoreSP : Prop :=
  ∀ (p : RP) (n : Word) (s : State),
    encode (ldPairN16 p n) = [opByte 0 (2 * p.code) 1, loByte n, hiByte n] ∧ encode .ldSPHL = [0xF9] ∧
    encode (.ldMemA16SP n) = [0x08, loByte n, hiByte n] ∧
    tableRow (ldPairN16 p n) = row [.imm16] [.reg p.any] 3 3 ∧
    tableRow .ldSPHL = row [.reg .hl] [.reg .sp] 1 2 ∧
    tableRow (.ldMemA16SP n) = row [.reg .sp] [.ind16] 3 5 ∧
    exec (ldPairN16 p n) s = .next ((s.setReg16 p.reg16 n).owing 2) ∧
    (s.Holds [.h, .l] → exec .ldSPHL s = .next ((s.setReg16 .sp (s.reg16 .hl)).owing 1)) ∧
    (s.Holds [.sp] → s.Store16Ready n →
      exec (.ldMemA16SP n) s =
        .next (((s.afterWrite n (loByte s.sp)).afterWrite (n + 1) (hiByte s.sp)).owing 4)) ∧
    (s.Holds [.sp] → s.Admits n → n = 0xFF46#16 →
      exec (.ldMemA16SP n) s =
        .refused (.dmaBusConflict ((s.afterWrite n (loByte s.sp)).refused .dmaBusConflict)))

/-- R602, R804 and `sp_add` of R800: the offset is signed in the sum and unsigned in both flag sums. -/
def Obligations.StackPointerOffset : Prop :=
  ∀ (e : Byte) (s : State),
    encode (.ldHLSPE8 e) = [0xF8, e] ∧ encode (.addSPE8 e) = [0xE8, e] ∧
    tableRow (.ldHLSPE8 e) = row [.imm8] [.reg .hl] 2 3 ∧ tableRow (.addSPE8 e) = row [.imm8] [.reg .sp] 2 4 ∧
    (s.Holds [.sp] →
      exec (.ldHLSPE8 e) s =
        .next (((s.setReg16 .hl (s.sp + sext16 e)).setFlags (some false) (some false)
          (some (decide (0x0F < s.sp.toNat % 16 + e.toNat % 16)))
          (some (decide (0xFF < s.sp.toNat % 256 + e.toNat)))).owing 2) ∧
      exec (.addSPE8 e) s =
        .next (((s.setReg16 .sp (s.sp + sext16 e)).setFlags (some false) (some false)
          (some (decide (0x0F < s.sp.toNat % 16 + e.toNat % 16)))
          (some (decide (0xFF < s.sp.toNat % 256 + e.toNat)))).owing 3))

/-- R610, R611, with `Push16` and `Pop16` of R10. -/
def Obligations.PushAndPop : Prop :=
  ∀ (q : RP2) (s : State),
    encode (pushPair q) = [opByte 3 (2 * q.code) 5] ∧ encode (popPair q) = [opByte 3 (2 * q.code) 1] ∧
    tableRow (pushPair q) = row [.reg q.any] [] 1 4 ∧ tableRow (popPair q) = row [] [.reg q.any] 1 3 ∧
    (s.Holds (reg16Names q.reg16) → s.PushReady →
      exec (pushPair q) s = .next ((s.afterPush (s.reg16 q.reg16)).owing 3)) ∧
    (s.PopReady → exec (popPair q) s = .next ((s.afterPop.setReg16 q.reg16 s.popVal).owing 2))

/-- R10, R230, R610, R611: a push to plain RAM stores the high byte at SP - 1 and the low byte at SP - 2,
and a pop of the same pair gives the pair back and leaves SP where it was. -/
def Obligations.PushThenPop : Prop :=
  ∀ (q : RP2) (s : State), s.Holds (.sp :: reg16Names q.reg16) → s.dmaWindow = 0 →
    isRam (s.sp - 1) = true → isRam (s.sp - 2) = true →
    ∃ t u, exec (pushPair q) s = .next t ∧ exec (popPair q) t = .next u ∧
      t.sp = s.sp - 2 ∧ t.stored (s.sp - 1) = some (hiByte (s.reg16 q.reg16)) ∧
      t.stored (s.sp - 2) = some (loByte (s.reg16 q.reg16)) ∧
      u.reg16 q.reg16 = s.reg16 q.reg16 ∧ u.sp = s.sp

/-! ### 8-bit arithmetic and logic -/

/-- R710, R713, R716, R719, R722, R725, R728, R731: the register forms. CP writes no register. -/
def Obligations.AluRegister : Prop :=
  ∀ (op : AluOp) (src : Reg8) (s : State),
    let out := aluFn op s.a (s.reg8 src) (usesCarry op && s.flags.c)
    encode (aluReg op src) = [opByte 2 op.code src.code] ∧
    tableRow (aluReg op src) = row [.reg src.any] [] 1 1 ∧
    (s.Holds [regName src, .a] → (usesCarry op = true → s.Holds [.fc]) →
      exec (aluReg op src) s =
        .next (((if op = .cp then s else s.setReg8 .a out.res).setFlags (some out.z) (some out.n)
          (some out.h) (some out.c)).owing 0))

/-- R711, R714, R717, R720, R723, R726, R729, R732: the forms on the byte at HL. -/
def Obligations.AluMemory : Prop :=
  ∀ (op : AluOp) (s : State),
    let out := aluFn op s.a (s.readVal (s.reg16 .hl)) (usesCarry op && s.flags.c)
    let s1 := s.afterRead (s.reg16 .hl)
    encode (aluMem op) = [opByte 2 op.code 6] ∧
    tableRow (aluMem op) = row [.ind .hl] [] 1 2 ∧
    (s.Holds [.h, .l, .a] → (usesCarry op = true → s.Holds [.fc]) → s.Admits (s.reg16 .hl) →
      exec (aluMem op) s =
        .next (((if op = .cp then s1 else s1.setReg8 .a out.res).setFlags (some out.z) (some out.n)
          (some out.h) (some out.c)).owing 1))

/-- R712, R715, R718, R721, R724, R727, R730, R733: the immediate forms. -/
def Obligations.AluImmediate : Prop :=
  ∀ (op : AluOp) (n : Byte) (s : State),
    let out := aluFn op s.a n (usesCarry op && s.flags.c)
    encode (aluN8 op n) = [opByte 3 op.code 6, n] ∧
    tableRow (aluN8 op n) = row [.imm8] [] 2 2 ∧
    (s.Holds [.a] → (usesCarry op = true → s.Holds [.fc]) →
      exec (aluN8 op n) s =
        .next (((if op = .cp then s else s.setReg8 .a out.res).setFlags (some out.z) (some out.n)
          (some out.h) (some out.c)).owing 1))

/-- R700, R701, R702: the functions of the eight operations over the integers. ADC and SBC take the
carry in; CP is SUB. -/
def Obligations.AluFunctions : Prop :=
  ∀ (a v : Byte) (c : Bool),
    (aluFn .add a v c = aluFn .adc a v false ∧ aluFn .sub a v c = aluFn .sbc a v false ∧
      aluFn .cp a v c = aluFn .sub a v c) ∧
    (let o := aluFn .adc a v c;
      o.res.toNat = (a.toNat + v.toNat + c.toNat) % 256 ∧ (o.z = true ↔ o.res = 0) ∧ o.n = false ∧
      (o.h = true ↔ 0x0F < a.toNat % 16 + v.toNat % 16 + c.toNat) ∧
      (o.c = true ↔ 0xFF < a.toNat + v.toNat + c.toNat)) ∧
    (let o := aluFn .sbc a v c;
      (o.res.toNat : Int) = ((a.toNat : Int) - v.toNat - c.toNat) % 256 ∧ (o.z = true ↔ o.res = 0) ∧
      o.n = true ∧ (o.h = true ↔ a.toNat % 16 < v.toNat % 16 + c.toNat) ∧
      (o.c = true ↔ a.toNat < v.toNat + c.toNat)) ∧
    aluFn .and a v c = ⟨a &&& v, decide (a &&& v = 0), false, true, false⟩ ∧
    aluFn .xor a v c = ⟨a ^^^ v, decide (a ^^^ v = 0), false, false, false⟩ ∧
    aluFn .or a v c = ⟨a ||| v, decide (a ||| v = 0), false, false, false⟩

/-- R734 to R737: the flags come from the old value, and C is unchanged. That Z, N and H are read so
is the spec's own reading of its source (90_conflicts.md C2). -/
def Obligations.IncrementDecrement : Prop :=
  ∀ (dst : Reg8) (s : State),
    let v := s.reg8 dst
    let m := s.readVal (s.reg16 .hl)
    let s1 := s.afterRead (s.reg16 .hl)
    encode (incReg dst) = [opByte 0 dst.code 4] ∧ encode (decReg dst) = [opByte 0 dst.code 5] ∧
    encode .incMemHL = [0x34] ∧ encode .decMemHL = [0x35] ∧
    tableRow (incReg dst) = row [.reg dst.any] [.reg dst.any] 1 1 ∧
    tableRow (decReg dst) = row [.reg dst.any] [.reg dst.any] 1 1 ∧
    tableRow .incMemHL = row [.ind .hl] [.ind .hl] 1 3 ∧ tableRow .decMemHL = row [.ind .hl] [.ind .hl] 1 3 ∧
    (s.Holds [regName dst] →
      exec (incReg dst) s =
        .next (((s.setReg8 dst (v + 1)).setFlags (some (decide (v + 1 = 0))) (some false)
          (some (decide (v.toNat % 16 = 0x0F))) none).owing 0) ∧
      exec (decReg dst) s =
        .next (((s.setReg8 dst (v - 1)).setFlags (some (decide (v - 1 = 0))) (some true)
          (some (decide (v.toNat % 16 = 0))) none).owing 0)) ∧
    (s.Holds [.h, .l] → s.Admits (s.reg16 .hl) →
      exec .incMemHL s =
        .next (((s1.afterWrite (s.reg16 .hl) (m + 1)).setFlags (some (decide (m + 1 = 0))) (some false)
          (some (decide (m.toNat % 16 = 0x0F))) none).owing 2) ∧
      exec .decMemHL s =
        .next (((s1.afterWrite (s.reg16 .hl) (m - 1)).setFlags (some (decide (m - 1 = 0))) (some true)
          (some (decide (m.toNat % 16 = 0))) none).owing 2))

/-- R740. Both tests of the addition branch use A before the adjustment. -/
def Obligations.DecimalAdjust : Prop :=
  ∀ (s : State), encode .daa = [0x27] ∧ tableRow .daa = row [.reg .a] [.reg .a] 1 1 ∧
    (s.Holds [.a, .fn, .fh, .fc] → s.flags.n = false →
      let high := s.flags.c || decide (0x99 < s.a.toNat)
      let low := s.flags.h || decide (0x09 < s.a.toNat % 16)
      let res := s.a + ((if high then 0x60 else 0x00) ||| (if low then 0x06 else 0x00))
      exec .daa s =
        .next (((s.setReg8 .a res).setFlags (some (decide (res = 0))) none (some false) (some high)).owing 0)) ∧
    (s.Holds [.a, .fn, .fh, .fc] → s.flags.n = true →
      let res := s.a - ((if s.flags.c then 0x60 else 0x00) ||| (if s.flags.h then 0x06 else 0x00))
      exec .daa s =
        .next (((s.setReg8 .a res).setFlags (some (decide (res = 0))) none (some false)
          (some s.flags.c)).owing 0))

/-- R740 with R710: on two packed BCD bytes `ADD A,r` and then `DAA` give the packed BCD sum, and the
carry flag says that the sum passed 99. Not a rule of its own: it follows from the two. -/
def Obligations.DecimalAddition : Prop :=
  ∀ (src : Reg8) (s : State) (x y : Nat), s.Holds [.a, regName src] → x < 100 → y < 100 →
    s.a.toNat = x / 10 * 16 + x % 10 → (s.reg8 src).toNat = y / 10 * 16 + y % 10 →
    ∃ t u, exec (aluReg .add src) s = .next t ∧ exec .daa t = .next u ∧
      u.a.toNat = (x + y) % 100 / 10 * 16 + (x + y) % 10 ∧ (u.flags.c = true ↔ 99 < x + y)

/-- R741, R742, R743: Z is unchanged by all three, and C by CPL. -/
def Obligations.ComplementAndCarry : Prop :=
  ∀ (s : State), encode .cpl = [0x2F] ∧ encode .scf = [0x37] ∧ encode .ccf = [0x3F] ∧
    tableRow .cpl = row [.reg .a] [.reg .a] 1 1 ∧ tableRow .scf = row [] [] 1 1 ∧
    tableRow .ccf = row [] [] 1 1 ∧
    (s.Holds [.a] →
      exec .cpl s = .next (((s.setReg8 .a (s.a ^^^ 0xFF)).setFlags none (some true) (some true) none).owing 0)) ∧
    exec .scf s = .next ((s.setFlags none (some false) (some false) (some true)).owing 0) ∧
    (s.Holds [.fc] →
      exec .ccf s = .next ((s.setFlags none (some false) (some false) (some (!s.flags.c))).owing 0))

/-! ### 16-bit arithmetic -/

/-- R801, R802, R803 and `add16` of R800. -/
def Obligations.PairArithmetic : Prop :=
  ∀ (p : RP) (s : State),
    let v := s.reg16 p.reg16
    let hl := s.reg16 .hl
    encode (addHLPair p) = [opByte 0 (2 * p.code + 1) 1] ∧ encode (incPair p) = [opByte 0 (2 * p.code) 3] ∧
    encode (decPair p) = [opByte 0 (2 * p.code + 1) 3] ∧
    tableRow (addHLPair p) = row [.reg p.any] [.reg .hl] 1 2 ∧
    tableRow (incPair p) = row [.reg p.any] [.reg p.any] 1 2 ∧
    tableRow (decPair p) = row [.reg p.any] [.reg p.any] 1 2 ∧
    (s.Holds (reg16Names p.reg16) → s.Holds [.h, .l] →
      exec (addHLPair p) s =
        .next (((s.setReg16 .hl (hl + v)).setFlags none (some false)
          (some (decide (0x0FFF < hl.toNat % 4096 + v.toNat % 4096)))
          (some (decide (0xFFFF < hl.toNat + v.toNat)))).owing 1)) ∧
    (s.Holds (reg16Names p.reg16) →
      exec (incPair p) s = .next ((s.setReg16 p.reg16 (v + 1)).owing 1) ∧
      exec (decPair p) s = .next ((s.setReg16 p.reg16 (v - 1)).owing 1))

/-! ### Rotates, shifts and bits -/

/-- R910: each function on the value, and the bit it carries out. RL and RR shift through the carry. -/
def Obligations.RotateFunctions : Prop :=
  ∀ (v : Byte) (c : Bool),
    rotFn .rlc v c = (v.rotateLeft 1, v.getLsbD 7) ∧ rotFn .rrc v c = (v.rotateRight 1, v.getLsbD 0) ∧
    ((rotFn .rl v c).1.toNat = (2 * v.toNat + c.toNat) % 256 ∧ (rotFn .rl v c).2 = v.getLsbD 7) ∧
    ((rotFn .rr v c).1.toNat = v.toNat / 2 + 128 * c.toNat ∧ (rotFn .rr v c).2 = v.getLsbD 0) ∧
    ((rotFn .sla v c).1.toNat = 2 * v.toNat % 256 ∧ (rotFn .sla v c).2 = v.getLsbD 7) ∧
    ((rotFn .sra v c).1.toInt = v.toInt / 2 ∧ (rotFn .sra v c).2 = v.getLsbD 0) ∧
    ((rotFn .swap v c).1.toNat = v.toNat % 16 * 16 + v.toNat / 16 ∧ (rotFn .swap v c).2 = false) ∧
    ((rotFn .srl v c).1.toNat = v.toNat / 2 ∧ (rotFn .srl v c).2 = v.getLsbD 0)

/-- R900 to R903: Z is 0 always. -/
def Obligations.AccumulatorRotates : Prop :=
  ∀ (s : State),
    encode .rlca = [0x07] ∧ encode .rrca = [0x0F] ∧ encode .rla = [0x17] ∧ encode .rra = [0x1F] ∧
    tableRow .rlca = row [.reg .a] [.reg .a] 1 1 ∧ tableRow .rrca = row [.reg .a] [.reg .a] 1 1 ∧
    tableRow .rla = row [.reg .a] [.reg .a] 1 1 ∧ tableRow .rra = row [.reg .a] [.reg .a] 1 1 ∧
    (let after := fun (out : Byte × Bool) =>
        ((s.setReg8 .a out.1).setFlags (some false) (some false) (some false) (some out.2)).owing 0;
      (s.Holds [.a] →
        exec .rlca s = .next (after (rotFn .rlc s.a false)) ∧
        exec .rrca s = .next (after (rotFn .rrc s.a false))) ∧
      (s.Holds [.a, .fc] →
        exec .rla s = .next (after (rotFn .rl s.a s.flags.c)) ∧
        exec .rra s = .next (after (rotFn .rr s.a s.flags.c))))

/-- R911, R913, R915, R917, R919, R921, R923, R925: the register forms; Z is computed from the result. -/
def Obligations.RotateRegister : Prop :=
  ∀ (op : RotOp) (r : Reg8) (s : State),
    let out := rotFn op (s.reg8 r) (rotUsesCarry op && s.flags.c)
    encode (rotReg op r) = [0xCB, opByte 0 op.code r.code] ∧
    tableRow (rotReg op r) = row [.reg r.any] [.reg r.any] 2 2 ∧
    (s.Holds [regName r] → (rotUsesCarry op = true → s.Holds [.fc]) →
      exec (rotReg op r) s =
        .next (((s.setReg8 r out.1).setFlags (some (decide (out.1 = 0))) (some false) (some false)
          (some out.2)).owing 1))

/-- R912, R914, R916, R918, R920, R922, R924, R926: the forms on the byte at HL. -/
def Obligations.RotateMemory : Prop :=
  ∀ (op : RotOp) (s : State),
    let out := rotFn op (s.readVal (s.reg16 .hl)) (rotUsesCarry op && s.flags.c)
    encode (rotMem op) = [0xCB, opByte 0 op.code 6] ∧
    tableRow (rotMem op) = row [.ind .hl] [.ind .hl] 2 4 ∧
    (s.Holds [.h, .l] → (rotUsesCarry op = true → s.Holds [.fc]) → s.Admits (s.reg16 .hl) →
      exec (rotMem op) s =
        .next ((((s.afterRead (s.reg16 .hl)).afterWrite (s.reg16 .hl) out.1).setFlags
          (some (decide (out.1 = 0))) (some false) (some false) (some out.2)).owing 3))

/-- R930, R931: Z is the complement of the bit, C is unchanged, and no register is written. -/
def Obligations.TestBit : Prop :=
  ∀ (b : Fin 8) (r : Reg8) (s : State),
    encode (bitReg b r) = [0xCB, opByte 1 b.val r.code] ∧ encode (bitMem b) = [0xCB, opByte 1 b.val 6] ∧
    tableRow (bitReg b r) = row [.reg r.any] [] 2 2 ∧ tableRow (bitMem b) = row [.ind .hl] [] 2 3 ∧
    (s.Holds [regName r] →
      exec (bitReg b r) s =
        .next ((s.setFlags (some (!(s.reg8 r).getLsbD b.val)) (some false) (some true) none).owing 1)) ∧
    (s.Holds [.h, .l] → s.Admits (s.reg16 .hl) →
      exec (bitMem b) s =
        .next (((s.afterRead (s.reg16 .hl)).setFlags (some (!(s.readVal (s.reg16 .hl)).getLsbD b.val))
          (some false) (some true) none).owing 2))

/-- R932 to R935: one bit of the operand is cleared or set, and no flag is written. -/
def Obligations.ResetAndSetBit : Prop :=
  ∀ (b : Fin 8) (r : Reg8) (s : State),
    let m := s.readVal (s.reg16 .hl)
    let s1 := s.afterRead (s.reg16 .hl)
    encode (resReg b r) = [0xCB, opByte 2 b.val r.code] ∧ encode (resMem b) = [0xCB, opByte 2 b.val 6] ∧
    encode (setReg b r) = [0xCB, opByte 3 b.val r.code] ∧ encode (setMem b) = [0xCB, opByte 3 b.val 6] ∧
    tableRow (resReg b r) = row [.reg r.any] [.reg r.any] 2 2 ∧
    tableRow (resMem b) = row [.ind .hl] [.ind .hl] 2 4 ∧
    tableRow (setReg b r) = row [.reg r.any] [.reg r.any] 2 2 ∧
    tableRow (setMem b) = row [.ind .hl] [.ind .hl] 2 4 ∧
    (s.Holds [regName r] →
      exec (resReg b r) s = .next ((s.setReg8 r (s.reg8 r &&& ~~~(1#8 <<< b.val))).owing 1) ∧
      exec (setReg b r) s = .next ((s.setReg8 r (s.reg8 r ||| (1#8 <<< b.val))).owing 1)) ∧
    (s.Holds [.h, .l] → s.Admits (s.reg16 .hl) →
      exec (resMem b) s = .next ((s1.afterWrite (s.reg16 .hl) (m &&& ~~~(1#8 <<< b.val))).owing 3) ∧
      exec (setMem b) s = .next ((s1.afterWrite (s.reg16 .hl) (m ||| (1#8 <<< b.val))).owing 3))

/-! ### Control transfer -/

/-- R1010 to R1014 with R1000: `pc` is already past the instruction, so a jump not taken writes nothing. -/
def Obligations.Jumps : Prop :=
  ∀ (cc : Cond) (n : Word) (e : Byte) (s : State),
    (condOf .nz s.flags = !s.flags.z ∧ condOf .z s.flags = s.flags.z ∧ condOf .nc s.flags = !s.flags.c ∧
      condOf .c s.flags = s.flags.c) ∧
    encode (.jpA16 n) = [0xC3, loByte n, hiByte n] ∧ encode (jpIf cc n) = [opByte 3 cc.code 2, loByte n, hiByte n] ∧
    encode .jpHL = [0xE9] ∧ encode (.jrE8 e) = [0x18, e] ∧ encode (jrIf cc e) = [opByte 0 (4 + cc.code) 0, e] ∧
    tableRow (.jpA16 n) = row [.imm16] [] 3 4 ∧ tableRow (jpIf cc n) = row [.imm16] [] 3 4 (some 3) ∧
    tableRow .jpHL = row [.reg .hl] [] 1 1 ∧ tableRow (.jrE8 e) = row [.imm8] [] 2 3 ∧
    tableRow (jrIf cc e) = row [.imm8] [] 2 3 (some 2) ∧
    exec (.jpA16 n) s = .next ((s.setPc n).owing 3) ∧
    (s.Holds [.h, .l] → exec .jpHL s = .next ((s.setPc (s.reg16 .hl)).owing 0)) ∧
    exec (.jrE8 e) s = .next ((s.setPc (s.pc + sext16 e)).owing 2) ∧
    (s.Holds (condNames cc) →
      exec (jpIf cc n) s = .next (if condOf cc s.flags then (s.setPc n).owing 3 else s.owing 2) ∧
      exec (jrIf cc e) s =
        .next (if condOf cc s.flags then (s.setPc (s.pc + sext16 e)).owing 2 else s.owing 1))

/-- R1020, R1021, R1040: the word pushed is the address of the next instruction. -/
def Obligations.Calls : Prop :=
  ∀ (cc : Cond) (n : Word) (y : Fin 8) (s : State),
    encode (.callA16 n) = [0xCD, loByte n, hiByte n] ∧
    encode (callCond cc n) = [opByte 3 cc.code 4, loByte n, hiByte n] ∧ encode (rstTo y) = [opByte 3 y.val 7] ∧
    tableRow (.callA16 n) = row [.imm16] [] 3 6 ∧ tableRow (callCond cc n) = row [.imm16] [] 3 6 (some 3) ∧
    tableRow (rstTo y) = row [] [] 1 4 ∧
    (s.PushReady →
      exec (.callA16 n) s = .next (((s.afterPush s.pc).setPc n).owing 5) ∧
      exec (rstTo y) s = .next (((s.afterPush s.pc).setPc (BitVec.ofNat 16 (y.val * 8))).owing 3)) ∧
    (s.Holds (condNames cc) → condOf cc s.flags = true → s.PushReady →
      exec (callCond cc n) s = .next (((s.afterPush s.pc).setPc n).owing 5)) ∧
    (s.Holds (condNames cc) → condOf cc s.flags = false → exec (callCond cc n) s = .next (s.owing 2))

/-- R1030, R1031, R1032: RETI sets IME at once and leaves `ime_sched` alone. -/
def Obligations.Returns : Prop :=
  ∀ (cc : Cond) (s : State),
    encode .ret = [0xC9] ∧ encode (retCond cc) = [opByte 3 cc.code 0] ∧ encode .reti = [0xD9] ∧
    tableRow .ret = row [] [] 1 4 ∧ tableRow (retCond cc) = row [] [] 1 5 (some 2) ∧
    tableRow .reti = row [] [] 1 4 ∧
    (s.PopReady →
      exec .ret s = .next ((s.afterPop.setPc s.popVal).owing 3) ∧
      exec .reti s = .next (({ s.afterPop.setPc s.popVal with ime := true } : State).owing 3)) ∧
    (s.Holds (condNames cc) → condOf cc s.flags = true → s.PopReady →
      exec (retCond cc) s = .next ((s.afterPop.setPc s.popVal).owing 4)) ∧
    (s.Holds (condNames cc) → condOf cc s.flags = false → exec (retCond cc) s = .next (s.owing 1))

/-! ### System -/

/-- R1100, R1104, R1105. -/
def Obligations.NopAndInterruptEnable : Prop :=
  ∀ (s : State), encode .nop = [0x00] ∧ encode .di = [0xF3] ∧ encode .ei = [0xFB] ∧
    tableRow .nop = row [] [] 1 1 ∧ tableRow .di = row [] [] 1 1 ∧ tableRow .ei = row [] [] 1 1 ∧
    exec .nop s = .next (s.owing 0) ∧
    exec .di s = .next (({ s with ime := false, imeSched := false } : State).owing 0) ∧
    exec .ei s = .next (({ s with imeSched := true } : State).owing 0)

/-- R1102. The answer `p` of `pending_interrupt()` is the field `irq` (log entry 4). -/
def Obligations.HaltOrRefuse : Prop :=
  ∀ (s : State), encode .halt = [0x76] ∧ tableRow .halt = row [] [] 1 1 ∧
    exec .halt s =
      if s.ime = false ∧ s.irq ≠ none then .refused (.haltBug { s with status := .refused .haltBug })
      else .next (({ s with halted := true } : State).owing 0)

/-- R1103, R1201, R340: the instructions that end the session, with the state they leave it in. `pc` has
passed the opcode, so the failing byte was fetched from one below. -/
def Obligations.SessionEndingInstructions : Prop :=
  ∀ (s : State) (opcode : Byte),
    encode .stop = [0x10, 0x00] ∧ encode (.unassigned opcode) = [opcode] ∧
    unassignedOpcodes = [0xD3, 0xDB, 0xDD, 0xE3, 0xE4, 0xEB, 0xEC, 0xED, 0xF4, 0xFC, 0xFD] ∧
    exec .stop s = .refused (.stop { s with status := .refused .stop }) ∧
    exec (.unassigned opcode) s =
      .fault (.decodeFailure opcode (s.pc - 1)
        { s with status := .faulted (.decodeFailure opcode (s.pc - 1)) }) ∧
    (opcode ∈ unassignedOpcodes → lookupPrimary opcode = .miss)

/-- R1101, R330, R331: the prefix row runs the extended entry, and completes wherever that does: always,
with every slot written and no DMA window. -/
def Obligations.PrefixRunsExtended : Prop :=
  ∀ (op2 : Byte) (s : State),
    encode (.prefixCB op2) = [0xCB, op2] ∧ exec (.prefixCB op2) s = exec (lookupExtended op2) s ∧
    (s.AllWritten → s.dmaWindow = 0 → ∃ t, exec (.prefixCB op2) s = .next t)

/-! ### Registers -/

/-- R101, R102, R104, R121, R141: a write to a slot changes that slot alone and makes it written; a pair
is its two slots, and a write to it changes those two alone; a write to AF drops the low four bits. -/
def Obligations.RegisterFile : Prop :=
  ∀ (s : State) (r q : Reg8) (v : Byte) (w : Word),
    (s.setReg8 r v).reg8 q = (if q = r then v else s.reg8 q) ∧ (s.setReg8 r v).flags = s.flags ∧
    (s.setReg8 r v).sp = s.sp ∧
    (∀ n, n ∈ (s.setReg8 r v).unwritten ↔ n ∈ s.unwritten ∧ n ≠ regName r) ∧
    (s.reg16 .bc).toNat = s.b.toNat * 256 + s.c.toNat ∧ (s.reg16 .de).toNat = s.d.toNat * 256 + s.e.toNat ∧
    (s.reg16 .hl).toNat = s.h.toNat * 256 + s.l.toNat ∧
    (s.reg16 .af).toNat = s.a.toNat * 256 +
      (128 * s.flags.z.toNat + 64 * s.flags.n.toNat + 32 * s.flags.h.toNat + 16 * s.flags.c.toNat) ∧
    (s.setReg16 .bc w).reg16 .bc = w ∧ (s.setReg16 .de w).reg16 .de = w ∧
    (s.setReg16 .hl w).reg16 .hl = w ∧ (s.setReg16 .sp w).reg16 .sp = w ∧
    (s.setReg16 .af w).reg16 .af = w &&& 0xFFF0 ∧
    (∀ rr, regName q ∉ reg16Names rr → (s.setReg16 rr w).reg8 q = s.reg8 q) ∧
    (∀ rr, rr ≠ .sp → (s.setReg16 rr w).sp = s.sp) ∧
    (∀ rr, rr ≠ .af → (s.setReg16 rr w).flags = s.flags) ∧
    (∀ rr n, n ∈ (s.setReg16 rr w).unwritten ↔ n ∈ s.unwritten ∧ n ∉ reg16Names rr)

/-- R141, R1202: a read of an unwritten slot ends the session before anything else of the rule runs, and
a pair reports its first unwritten slot, high slot first. -/
def Obligations.UnwrittenReadFaults : Prop :=
  ∀ (s : State) (dst src : Reg8) (rr : Reg16) (cc : Cond) (n : Word) (pre post : List RegName) (x : RegName),
    x ∈ s.unwritten →
    let stop := Fault.uninitialisedRead x { s with status := .faulted (.uninitialisedRead x) }
    (regName src = x → readReg8 src s = .fault stop ∧ exec (ldRegReg dst src) s = .fault stop ∧
      exec (incReg src) s = .fault stop ∧ ∀ op, exec (aluReg op src) s = .fault stop) ∧
    (reg16Names rr = pre ++ x :: post → s.Holds pre → readReg16 rr s = .fault stop) ∧
    (x = .sp → ∀ q : RP2, exec (popPair q) s = .fault stop) ∧
    (condNames cc = [x] → exec (jpIf cc n) s = .fault stop)

/-! ### The bus -/

/-- R220 to R227, R235: the policies of the ranges, in every state: what a read gives, what it leaves
and what a write leaves. A read changes the draw counter at most, but for the recorded event of a read
of the I/O block. A byte that is a draw is a free value: of the address in ROM (log entry 3), of the draw
counter elsewhere (log entry 1), and so is the lock of VRAM and OAM (log entry 2). -/
def Obligations.RegionPolicies : Prop :=
  ∀ (s : State) (a : Word) (v : Byte),
    (region a = .rom → s.afterWrite a v = s ∧ s.afterRead a = s ∧
      s.readVal a = (s.stored a).getD (Config.romByte a)) ∧
    (region a = .cartRam → s.readVal a = 0xFF ∧ s.afterRead a = s ∧ s.afterWrite a v = s) ∧
    (isRam a = true → (s.afterWrite a v).readVal a = v ∧
      (∀ b, isRam b = true → cellOf b ≠ cellOf a → (s.afterWrite a v).stored b = s.stored b) ∧
      (∀ b, s.stored a = some b → s.readVal a = b ∧ s.afterRead a = s) ∧
      (s.stored a = none →
        s.readVal a = Config.drawByte s.draws ∧ s.afterRead a = { s with draws := s.draws + 1 })) ∧
    (region a = .unusable → s.afterWrite a v = s ∧ s.readVal a = Config.drawByte s.draws ∧
      s.afterRead a = { s with draws := s.draws + 1 }) ∧
    (region a = .vram ∨ region a = .oam →
      (∃ k, s.afterRead a = { s with draws := s.draws + k }) ∧
      if Config.drawLocked s.draws then s.readVal a = 0xFF ∧ (s.afterWrite a v).mem = s.mem
      else (s.afterWrite a v).stored a = some v ∧ ∀ b, s.stored a = some b → s.readVal a = b) ∧
    (region a = .echo → cellOf a = a.toNat - 0x2000 ∧
      (s.afterWrite a v).readVal (a - 0x2000) = v ∧ (s.afterWrite (a - 0x2000) v).readVal a = v) ∧
    (region a = .io ∨ region a = .ie → s.readVal a = Config.drawByte s.draws ∧
      s.afterRead a =
        { s with draws := s.draws + 1, events := .ioRead a (s.readVal a) s.tick :: s.events } ∧
      (a ≠ 0xFF46#16 → s.afterWrite a v = { s with events := .ioWrite a v s.tick :: s.events }) ∧
      (a = 0xFF46#16 →
        s.afterWrite a v =
          { s with
            events := .ioWrite a v s.tick :: s.events
            dmaWindow := 161
            mem := Memory.forgetOam s.mem }))

/-- R201, R202: the ten ranges are disjoint and cover the address space, each with its one owner. -/
def Obligations.AddressMap : Prop :=
  ∀ (a : Word),
    (region a = .rom ↔ a.toNat ≤ 0x7FFF) ∧ (region a = .vram ↔ 0x8000 ≤ a.toNat ∧ a.toNat ≤ 0x9FFF) ∧
    (region a = .cartRam ↔ 0xA000 ≤ a.toNat ∧ a.toNat ≤ 0xBFFF) ∧
    (region a = .wram ↔ 0xC000 ≤ a.toNat ∧ a.toNat ≤ 0xDFFF) ∧
    (region a = .echo ↔ 0xE000 ≤ a.toNat ∧ a.toNat ≤ 0xFDFF) ∧
    (region a = .oam ↔ 0xFE00 ≤ a.toNat ∧ a.toNat ≤ 0xFE9F) ∧
    (region a = .unusable ↔ 0xFEA0 ≤ a.toNat ∧ a.toNat ≤ 0xFEFF) ∧
    (region a = .io ↔ 0xFF00 ≤ a.toNat ∧ a.toNat ≤ 0xFF7F) ∧
    (region a = .hram ↔ 0xFF80 ≤ a.toNat ∧ a.toNat ≤ 0xFFFE) ∧ (region a = .ie ↔ a.toNat = 0xFFFF) ∧
    regionOwner .rom = .rom ∧ regionOwner .vram = .videoRam ∧ regionOwner .cartRam = .rom ∧
    regionOwner .wram = .workingRam ∧ regionOwner .echo = .workingRam ∧
    regionOwner .oam = .objectAttribute ∧ regionOwner .unusable = .objectAttribute ∧
    regionOwner .io = .ioBlock ∧ regionOwner .hram = .peripheralHighRam ∧ regionOwner .ie = .ioBlock

/-- R227, R235, R137: an I/O access is one recorded event and keeps no byte; a write to 0xFF46 also opens
the DMA window in the same access. That OAM is forgotten then is the model's reading of R225 and R241
(log entry 14). -/
def Obligations.IoAccess : Prop :=
  ∀ (s : State) (a : Word) (v : Byte), region a = .io ∨ region a = .ie →
    (s.afterRead a).events = .ioRead a (s.readVal a) s.tick :: s.events ∧ (s.afterRead a).mem = s.mem ∧
    (s.afterWrite a v).events = .ioWrite a v s.tick :: s.events ∧
    (a ≠ 0xFF46#16 → (s.afterWrite a v).mem = s.mem ∧ (s.afterWrite a v).dmaWindow = s.dmaWindow) ∧
    (a = 0xFF46#16 → (s.afterWrite a v).mem = Memory.forgetOam s.mem ∧ (s.afterWrite a v).dmaWindow = 161)

/-- R212, R213, R230, R231: a 16-bit write is two byte writes, low byte first, and in plain RAM the bytes
read back are the low byte at the address and the high byte above it, wrapping. -/
def Obligations.LittleEndianWords : Prop :=
  ∀ (s : State) (a : Word) (w : Word), s.dmaWindow = 0 → isRam a = true → isRam (a + 1) = true →
    ∃ t, busWrite16 a w s = .next t ∧ busRead a t = .next (loByte w, t) ∧
      busRead (a + 1) t = .next (hiByte w, t) ∧ busRead16 a t = .next (w, t)

/-- R228, R1204, R1205: while the window is open every bus read, bus write and fetch outside HRAM is
refused, the fetch of a step included. The first access of an instruction's rule outside HRAM is refused
with the state before the access; a push has moved SP by then. A second access is refused too where the
window is open or the first access opens it, by a write to 0xFF46. An access in HRAM never is refused.
The pushes of an interrupt entry are in `InterruptEntryTaken`. -/
def Obligations.DmaWindowRefuses : Prop :=
  (∀ (s : State) (a : Word) (v : Byte), 0 < s.dmaWindow → region a ≠ .hram →
    let left : State := { s with status := .refused .dmaBusConflict }
    busRead a s = .refused (.dmaBusConflict left) ∧ busWrite a v s = .refused (.dmaBusConflict left) ∧
    (a = s.pc → fetch8 s = .refused (.dmaBusConflict left)) ∧
    (a = s.pc → s.RunsInstruction → step s = .refused (.dmaBusConflict left))) ∧
  (∀ (i : Instr) (s : State) (a : Word), i.wf = true → s.AllWritten → firstAccess i s = some a →
    0 < s.dmaWindow → region a ≠ .hram →
    let left := if pushes i s.flags then s.setReg16 .sp (s.sp - 1) else s
    exec i s = .refused (.dmaBusConflict { left with status := .refused .dmaBusConflict })) ∧
  (∀ (i : Instr) (s : State) (a b : Word), i.wf = true → s.AllWritten → firstAccess i s = some a →
    secondAccess i s = some b → s.Admits a → region b ≠ .hram →
    (0 < s.dmaWindow ∨ (a = 0xFF46#16 ∧ pops i s.flags = false)) →
    ∃ u, exec i s = .refused (.dmaBusConflict u) ∧ u.status = .refused .dmaBusConflict) ∧
  (∀ (s : State) (a : Word) (v : Byte), region a = .hram →
    busRead a s = .next (s.readVal a, s.afterRead a) ∧ busWrite a v s = .next (s.afterWrite a v))

/-! ### Frames of all instructions -/

/-- What no instruction changes among the registers: an 8-bit register that is not among those the
instruction writes (its register targets, HL where the handler steps it, A for the ALU operations but
CP), and SP unless the instruction is one of those R104 lists as writing it. -/
def Obligations.RegistersUnchanged : Prop :=
  ∀ (i : Instr) (s t : State), i.wf = true → exec i s = .next t →
    (∀ r : Reg8, r ∉ writtenRegs i → t.reg8 r = s.reg8 r) ∧
    (writesSp i s.flags = false → t.sp = s.sp)

/-- What no instruction changes among the flags: each flag outside those the flag rules list for the
instruction (R122 to R125). -/
def Obligations.FlagsUnchanged : Prop :=
  ∀ (i : Instr) (s t : State), i.wf = true → exec i s = .next t →
    ((flagsWritten i).z = false → t.flags.z = s.flags.z) ∧
    ((flagsWritten i).n = false → t.flags.n = s.flags.n) ∧
    ((flagsWritten i).h = false → t.flags.h = s.flags.h) ∧
    ((flagsWritten i).c = false → t.flags.c = s.flags.c)

/-- What no instruction changes in memory: every byte outside the cells of the addresses it stores to
(its memory targets by the formulas of R405 to R408, and the two bytes of a push), and OAM unless one of
them is 0xFF46 (log entry 14). -/
def Obligations.MemoryUnchanged : Prop :=
  ∀ (i : Instr) (s t : State), i.wf = true → exec i s = .next t →
    ∀ a : Word, (∀ w ∈ storedAddrs i s, cellOf w ≠ cellOf a) →
      (0xFF46#16 ∈ storedAddrs i s → region a ≠ .oam) → t.stored a = s.stored a

/-- What no instruction changes in the control state: R112 lists the writers of pc, R130 of IME, R131 of
`ime_sched`, R132 of `halted`, R137 of the DMA window; the rest of the engine's state is not an
instruction's. -/
def Obligations.ControlStateUnchanged : Prop :=
  ∀ (i : Instr) (s t : State), i.wf = true → exec i s = .next t →
    (writesPc i = false → t.pc = s.pc) ∧
    (i ≠ .di → i ≠ .reti → t.ime = s.ime) ∧ (i ≠ .di → i ≠ .ei → t.imeSched = s.imeSched) ∧
    (i ≠ .halt → t.halted = s.halted) ∧
    (0xFF46#16 ∉ storedAddrs i s → t.dmaWindow = s.dmaWindow) ∧
    t.status = s.status ∧ t.tick = s.tick ∧ t.irq = s.irq ∧ s.draws ≤ t.draws ∧
    (∃ new, t.events = new ++ s.events) ∧ ∀ n ∈ t.unwritten, n ∈ s.unwritten

/-- R321, R423: the cost an instruction charges is its row's cost, or the other cost of a conditional
row; so the ticks owed after a step are at most 5 (R133). -/
def Obligations.CostIsTheRows : Prop :=
  ∀ (i : Instr) (s t : State), i.wf = true → exec i s = .next t →
    (t.remaining + 1 = (tableRow i).cycles ∨ some (t.remaining + 1) = (tableRow i).cyclesNotTaken) ∧
    t.remaining ≤ 5

/-! ### The engine and the scheduler -/

/-- R420, R421, R425, R430, R431: where the stream bytes at `pc` decode to an instruction, one step is exec
of it on the state after the fetch, then the promotion of IME, then the rest of the tick. `STOP`'s second
byte is not fetched (R1103), so its one byte decodes with any byte after it. -/
def Obligations.StepRunsDecoded : Prop :=
  ∀ (s s1 : State) (bytes pad : List Byte) (i : Instr), s.RunsInstruction →
    fetchBytes (fetchLength i) s = .next (bytes, s1) → decode (bytes ++ pad) = .ok (i, []) →
    s.Holds (sourcesBefore i) →
    step s = Result.andThen (exec i s1) fun s2 => .next (advance (promoteIme s.imeSched i s2))

/-- R10, R110, R220, R223, R224, R244: bytes that stand in plain storage at `pc` are what is fetched, and
the fetch changes `pc` alone, wrapping. -/
def Obligations.FetchReadsStored : Prop :=
  ∀ (s : State) (bytes : List Byte), s.dmaWindow = 0 →
    (∀ k v, bytes[k]? = some v → s.PlainByte (s.pc + BitVec.ofNat 16 k) v) →
    fetchBytes bytes.length s = .next (bytes, s.setPc (s.pc + BitVec.ofNat 16 bytes.length))

/-- R430, R431, R432: a tick that owes ticks counts one down and runs nothing else of the CPU. -/
def Obligations.IdleTickCountsDown : Prop :=
  ∀ (s : State) (k : Nat), s.status = .running → s.remaining = k + 1 →
    step s = .next { s with
      remaining := k, irq := Config.pendingAnswer (s.tick + 1), dmaWindow := s.dmaWindow - 1, tick := s.tick + 1 }

/-- R1211, R1212, R1231, R421: a boundary with IME = 1 and an interrupt pending takes it, halted or not: pc is
pushed, IME and `ime_sched` become 0, the acknowledgement is recorded, pc is the vector and 5 cycles are
charged. With SP at 0x0000 or 0x0001 the entry is refused before anything changes. A push that the DMA
window refuses (R228) leaves what ran before it (R1205): SP moved, and for the second byte the first one
written, which itself opens the window where it goes to 0xFF46. -/
def Obligations.InterruptEntryTaken : Prop :=
  ∀ (s : State) (src : IntSource), s.status = .running → s.remaining = 0 → s.ime = true →
    s.irq = some src → s.Holds [.sp] →
    [IntSource.vblank, .lcdStat, .timer, .serial, .joypad].map intVector =
      [0x0040, 0x0048, 0x0050, 0x0058, 0x0060] ∧
    let s0 : State := { s with halted := false }
    let taken := ({ s0 with ime := false, imeSched := false } : State).acknowledge (intVector src)
    let first := taken.setReg16 .sp (s.sp - 1)
    let second := (first.afterWrite (s.sp - 1) (hiByte s.pc)).setReg16 .sp (s.sp - 2)
    (s.sp ≠ 0x0000#16 → s.sp ≠ 0x0001#16 → s.PushReady →
      step s = .next (advance (((taken.afterPush s.pc).setPc (intVector src)).owing 4))) ∧
    (s.sp = 0x0000#16 ∨ s.sp = 0x0001#16 →
      step s = .refused (.dispatchPushToIE { s0 with status := .refused .dispatchPushToIE })) ∧
    (s.sp ≠ 0x0000#16 → s.sp ≠ 0x0001#16 → 0 < s.dmaWindow → region (s.sp - 1) ≠ .hram →
      step s = .refused (.dmaBusConflict (first.refused .dmaBusConflict))) ∧
    (s.sp ≠ 0x0000#16 → s.sp ≠ 0x0001#16 → s.Admits (s.sp - 1) →
      s.sp = 0xFF47#16 ∨ (0 < s.dmaWindow ∧ region (s.sp - 2) ≠ .hram) →
      step s = .refused (.dmaBusConflict (second.refused .dmaBusConflict)))

/-- R421, R1102: a halted boundary with no interrupt pending costs one tick and touches nothing; with one
pending it wakes, whatever IME is, and the step is that of the awake core, but that after a DecodeFailure
`halted` is a free value, since R132 and R1201 differ there (the model's choice, log entry 23). -/
def Obligations.HaltedWaitAndWake : Prop :=
  ∀ (s : State), s.status = .running → s.remaining = 0 → s.halted = true →
    (s.irq = none → step s = .next (advance s)) ∧
    (s.irq ≠ none →
      match step { s with halted := false } with
      | .fault (.decodeFailure opcode addr u) =>
        step s = .fault (.decodeFailure opcode addr { u with halted := Config.haltedAtFailure s.tick })
      | awake => step s = awake)

/-- R425, R131, R1105: the instruction after `EI` ends with IME = 1 and `ime_sched` = 0, unless it is `DI`
(opcode 0xF3), which leaves IME = 0; with `ime_sched` = 0 only `RETI` (0xD9) turns IME on. -/
def Obligations.EiTakesEffectLate : Prop :=
  ∀ (s s1 t : State) (op : Byte), s.RunsInstruction → s.ime = false →
    fetch8 s = .next (op, s1) → step s = .next t →
    (s.imeSched = true → t.imeSched = false ∧ (t.ime = true ↔ op ≠ 0xF3)) ∧
    (s.imeSched = false → (t.ime = true ↔ op = 0xD9))

/-- R134, R433, R13: a session that has ended changes no more, and every step that ends it leaves it in a
state that has ended. -/
def Obligations.EndedSessionsStay : Prop :=
  (∀ s : State, s.status ≠ .running → step s = .next s) ∧
  (∀ (s : State) (f : Fault), step s = .fault f → f.final.status ≠ .running) ∧
  (∀ (s : State) (r : Refusal), step s = .refused r → ∃ u, r.final = some u ∧ u.status ≠ .running)

/-! ### Encoding -/

/-- R300, R301, R310, R330: decoding the encoding of any instruction, with anything after it, gives the
instruction back with every operand, and leaves the rest. -/
def Obligations.DecodeOfEncode : Prop :=
  ∀ (i : Instr) (rest : List Byte), i.wf = true → decode (encode i ++ rest) = .ok (i, rest)

/-- R330, R331, R340, R343: whatever decodes is an instruction and was its encoding, but for the second
byte of `STOP`, which is not checked; and decoding fails on truncated streams only. -/
def Obligations.DecodeOnlyEncodings : Prop :=
  (∀ (bytes rest : List Byte) (i : Instr), decode bytes = .ok (i, rest) →
    i.wf = true ∧ (i ≠ .stop → bytes = encode i ++ rest) ∧ (i = .stop → ∃ x, bytes = 0x10 :: x :: rest)) ∧
  (∀ bytes : List Byte, 3 ≤ bytes.length → ∃ i rest, decode bytes = .ok (i, rest))

/-- R360, R361: words of the two maps decode to what their cells say. -/
def Obligations.DecodeWords : Prop :=
  decode [0x48] = .ok (.ldCB, []) ∧ decode [0x3E, 0x42] = .ok (.ldAN8 0x42, []) ∧
  decode [0x76] = .ok (.halt, []) ∧ decode [0xCB, 0x76] = .ok (.bit6MemHL, []) ∧
  decode [0x11, 0xCD, 0xAB] = .ok (.ldDEN16 0xABCD, []) ∧ decode [0xE6, 0x3F] = .ok (.andN8 0x3F, []) ∧
  decode [0x39] = .ok (.addHLSP, []) ∧ decode [0xCB, 0x37] = .ok (.swapA, []) ∧
  decode [0xDC, 0x00, 0x02] = .ok (.callCA16 0x0200, []) ∧ decode [0xFB] = .ok (.ei, []) ∧
  decode [0xED] = .ok (.unassigned 0xED, [])

/-! ### Reset and invariants -/

/-- R140, R142, R141, R1301: the two reset profiles. The event list, the tick and the memory list start
empty (R1302); the counter of draws is the model's own (log entry 1) and the first answer of
`pending_interrupt()` is a free value (log entry 4), so neither is stated. -/
def Obligations.ResetValues : Prop :=
  (let s := State.reset;
    s.a = 0x01 ∧ s.reg16 .af = 0x01B0 ∧ s.b = 0x00 ∧ s.c = 0x13 ∧ s.d = 0x00 ∧ s.e = 0xD8 ∧ s.h = 0x01 ∧
    s.l = 0x4D ∧ s.sp = 0xFFFE ∧ s.pc = 0x0100 ∧ s.ime = false ∧ s.imeSched = false ∧ s.halted = false ∧
    s.dmaWindow = 0 ∧ s.remaining = 0 ∧ s.status = .running ∧ s.unwritten = [] ∧ s.mem = [] ∧
    s.events = [] ∧ s.tick = 0) ∧
  (let s := State.resetPowerOn;
    s.pc = 0x0000 ∧ s.ime = false ∧ s.imeSched = false ∧ s.halted = false ∧ s.dmaWindow = 0 ∧
    s.remaining = 0 ∧ s.status = .running ∧ s.mem = [] ∧ s.events = [] ∧ s.tick = 0 ∧
    ∀ n : RegName, n ∈ s.unwritten)

/-- R1310: before the first tick `load_program` places its bytes in ROM and nothing else; a call past
0x8000, or after the first tick, one that ended the session included (R433), is rejected whole. -/
def Obligations.LoadProgramWritesRom : Prop :=
  ∀ (s : State) (bytes : List Byte) (base : Nat),
    (s.tick = 0 → s.status = .running → base + bytes.length ≤ 0x8000 →
      ∃ t, s.loadProgram bytes base = some t ∧ t = { s with mem := t.mem } ∧
        (∀ (a : Word) (k : Nat), a.toNat = base + k → k < bytes.length → t.stored a = bytes[k]?) ∧
        (∀ a : Word, cellOf a < base ∨ base + bytes.length ≤ cellOf a → t.stored a = s.stored a)) ∧
    (¬(s.tick = 0 ∧ s.status = .running ∧ base + bytes.length ≤ 0x8000) → s.loadProgram bytes base = none)

/-- The invariant of every step: the memory list is in its canonical form and lists storage of the CORE
only, at most 5 ticks are owed (R133), and the DMA window is at most `DMA_WINDOW` (R137). -/
def Obligations.InvariantKept : Prop := ∀ s t : State, s.Inv → step s = .next t → t.Inv

/-- The invariant holds at reset, under both profiles. -/
def Obligations.InvariantAtReset : Prop := State.reset.Inv ∧ State.resetPowerOn.Inv

/-- R221, R1323: no step changes a byte of ROM, so a read of ROM answers the same for the whole run. -/
def Obligations.RomImmutable : Prop :=
  ∀ (s t : State), step s = .next t → ∀ a : Word, region a = .rom →
    t.stored a = s.stored a ∧ t.readVal a = s.readVal a

/-- R141, R1202: a slot once written stays written, and with every slot written, as under `post_boot`, no
step faults with UninitialisedRead. -/
def Obligations.WrittenStaysWritten : Prop :=
  (∀ (s t : State) (n : RegName), step s = .next t → n ∉ s.unwritten → n ∉ t.unwritten) ∧
  (∀ (s : State) (r : RegName) (u : State), s.AllWritten → step s ≠ .fault (.uninitialisedRead r u))
end

