-- ==== Sys2Proof/Laws/Memory.lean ====
section
/-! SUPPORT. The laws of the memory list: every operation keeps its canonical form, and what a lookup
gives after a store. -/
namespace Sys2Proof.Machine

/-- A store adds no address but its own. -/
theorem Memory.mem_store {m : List Host.Cell} {a : Nat} {v : Byte} {x : Host.Cell}
    (h : x ∈ Memory.store m a v) : x = (a, v) ∨ x ∈ m := by
  induction m with
  | nil => simpa [Memory.store] using h
  | cons y m ih =>
    rw [Memory.store] at h
    split at h
    · simpa using h
    · split at h
      · rcases List.mem_cons.1 h with h | h <;> simp [h]
      · rcases List.mem_cons.1 h with h | h
        · simp [h]
        · rcases ih h with h | h <;> simp [h]

theorem Memory.store_wf {m : List Host.Cell} (h : Memory.wf m) (a : Nat) (v : Byte) :
    Memory.wf (Memory.store m a v) := by
  induction m with
  | nil => simp [Memory.store, Memory.wf]
  | cons y m ih =>
    have hy := List.pairwise_cons.1 h
    rw [Memory.store]
    split
    · rename_i hlt
      refine List.pairwise_cons.2 ⟨fun x hx => ?_, h⟩
      rcases List.mem_cons.1 hx with rfl | hx
      · exact hlt
      · exact lt_trans hlt (hy.1 x hx)
    · split
      · rename_i heq
        subst heq
        exact List.pairwise_cons.2 ⟨hy.1, hy.2⟩
      · refine List.pairwise_cons.2 ⟨fun x hx => ?_, ih hy.2⟩
        rcases Memory.mem_store hx with rfl | hx
        · show y.1 < a
          omega
        · exact hy.1 x hx

theorem Memory.forgetOam_wf {m : List Host.Cell} (h : Memory.wf m) : Memory.wf (Memory.forgetOam m) :=
  h.filter _

theorem storeBytes_wf {m : List Host.Cell} (h : Memory.wf m) (base : Nat) (bytes : List Byte) :
    Memory.wf (storeBytes m base bytes) := by
  induction bytes generalizing m base with
  | nil => exact h
  | cons b rest ih => exact ih (Memory.store_wf h base b) (base + 1)

theorem reset_mem_wf : Memory.wf State.reset.mem := List.Pairwise.nil

/-- A lookup after a store: the stored byte at its address, the old answer elsewhere. -/
@[simp] theorem Memory.lookup_store (m : List Host.Cell) (a b : Nat) (v : Byte) :
    Memory.lookup (Memory.store m a v) b = if b = a then some v else Memory.lookup m b := by
  induction m with
  | nil => simp [Memory.store, Memory.lookup, eq_comm]
  | cons y m ih =>
    rw [Memory.store]
    split
    · by_cases h : b = a
      · subst h; simp [Memory.lookup]
      · simp [Memory.lookup, h, Ne.symm h]
    · split
      · rename_i heq
        subst heq
        by_cases h : b = y.1
        · subst h; simp [Memory.lookup]
        · simp [Memory.lookup, h, Ne.symm h]
      · rename_i hne
        by_cases h : b = a
        · subst h; simp [Memory.lookup, Ne.symm hne, ih]
        · by_cases h' : y.1 = b <;> simp [Memory.lookup, h, h', ih]

/-- A lookup outside OAM does not see that OAM was forgotten. -/
theorem Memory.lookup_forgetOam (m : List Host.Cell) (b : Nat) (h : ¬(0xFE00 ≤ b ∧ b < 0xFEA0)) :
    Memory.lookup (Memory.forgetOam m) b = Memory.lookup m b := by
  induction m with
  | nil => rfl
  | cons y m ih =>
    rw [Memory.forgetOam, List.filter_cons]
    split
    · by_cases hb : y.1 = b
      · simp [Memory.lookup, hb]
      · rw [Memory.lookup, Memory.lookup, if_neg hb, if_neg hb]; exact ih
    · rename_i hy
      have hb : y.1 ≠ b := by
        intro hb; apply h; simp at hy; omega
      rw [Memory.lookup, if_neg hb]; exact ih

/-- No byte of OAM is known once it was forgotten. -/
theorem Memory.lookup_forgetOam_oam (m : List Host.Cell) (b : Nat) (h : 0xFE00 ≤ b ∧ b < 0xFEA0) :
    Memory.lookup (Memory.forgetOam m) b = none := by
  induction m with
  | nil => rfl
  | cons y m ih =>
    rw [Memory.forgetOam, List.filter_cons]
    split
    · rename_i hy
      have hb : y.1 ≠ b := by
        intro hb; simp at hy; omega
      rw [Memory.lookup, if_neg hb]; exact ih
    · exact ih

end Sys2Proof.Machine
end

