-- ==== Sys2Proof/Laws/State.lean ====
section
/-! SUPPORT. What each update of State does to each field, once, so that no proof unfolds an update. -/
namespace Sys2Proof.Machine

/-! ### `markWritten` -/

@[simp] theorem State.markWritten_a (s : State) (ns : List RegName) : (s.markWritten ns).a = s.a := rfl
@[simp] theorem State.markWritten_b (s : State) (ns : List RegName) : (s.markWritten ns).b = s.b := rfl
@[simp] theorem State.markWritten_c (s : State) (ns : List RegName) : (s.markWritten ns).c = s.c := rfl
@[simp] theorem State.markWritten_d (s : State) (ns : List RegName) : (s.markWritten ns).d = s.d := rfl
@[simp] theorem State.markWritten_e (s : State) (ns : List RegName) : (s.markWritten ns).e = s.e := rfl
@[simp] theorem State.markWritten_h (s : State) (ns : List RegName) : (s.markWritten ns).h = s.h := rfl
@[simp] theorem State.markWritten_l (s : State) (ns : List RegName) : (s.markWritten ns).l = s.l := rfl
@[simp] theorem State.markWritten_flags (s : State) (ns : List RegName) : (s.markWritten ns).flags = s.flags := rfl
@[simp] theorem State.markWritten_sp (s : State) (ns : List RegName) : (s.markWritten ns).sp = s.sp := rfl
@[simp] theorem State.markWritten_pc (s : State) (ns : List RegName) : (s.markWritten ns).pc = s.pc := rfl
@[simp] theorem State.markWritten_ime (s : State) (ns : List RegName) : (s.markWritten ns).ime = s.ime := rfl
@[simp] theorem State.markWritten_imeSched (s : State) (ns : List RegName) : (s.markWritten ns).imeSched = s.imeSched := rfl
@[simp] theorem State.markWritten_halted (s : State) (ns : List RegName) : (s.markWritten ns).halted = s.halted := rfl
@[simp] theorem State.markWritten_remaining (s : State) (ns : List RegName) : (s.markWritten ns).remaining = s.remaining := rfl
@[simp] theorem State.markWritten_dmaWindow (s : State) (ns : List RegName) : (s.markWritten ns).dmaWindow = s.dmaWindow := rfl
@[simp] theorem State.markWritten_status (s : State) (ns : List RegName) : (s.markWritten ns).status = s.status := rfl
@[simp] theorem State.markWritten_mem (s : State) (ns : List RegName) : (s.markWritten ns).mem = s.mem := rfl
@[simp] theorem State.markWritten_tick (s : State) (ns : List RegName) : (s.markWritten ns).tick = s.tick := rfl
@[simp] theorem State.markWritten_events (s : State) (ns : List RegName) : (s.markWritten ns).events = s.events := rfl
@[simp] theorem State.markWritten_draws (s : State) (ns : List RegName) : (s.markWritten ns).draws = s.draws := rfl
@[simp] theorem State.markWritten_irq (s : State) (ns : List RegName) : (s.markWritten ns).irq = s.irq := rfl

@[simp] theorem State.markWritten_unwritten (s : State) (ns : List RegName) :
    (s.markWritten ns).unwritten = s.unwritten.filter fun n => !ns.contains n := rfl

/-! ### `setReg8` -/

@[simp] theorem State.setReg8_flags (s : State) (r : Reg8) (v : Byte) : (s.setReg8 r v).flags = s.flags := by cases r <;> rfl
@[simp] theorem State.setReg8_sp (s : State) (r : Reg8) (v : Byte) : (s.setReg8 r v).sp = s.sp := by cases r <;> rfl
@[simp] theorem State.setReg8_pc (s : State) (r : Reg8) (v : Byte) : (s.setReg8 r v).pc = s.pc := by cases r <;> rfl
@[simp] theorem State.setReg8_ime (s : State) (r : Reg8) (v : Byte) : (s.setReg8 r v).ime = s.ime := by cases r <;> rfl
@[simp] theorem State.setReg8_imeSched (s : State) (r : Reg8) (v : Byte) : (s.setReg8 r v).imeSched = s.imeSched := by cases r <;> rfl
@[simp] theorem State.setReg8_halted (s : State) (r : Reg8) (v : Byte) : (s.setReg8 r v).halted = s.halted := by cases r <;> rfl
@[simp] theorem State.setReg8_remaining (s : State) (r : Reg8) (v : Byte) : (s.setReg8 r v).remaining = s.remaining := by cases r <;> rfl
@[simp] theorem State.setReg8_dmaWindow (s : State) (r : Reg8) (v : Byte) : (s.setReg8 r v).dmaWindow = s.dmaWindow := by cases r <;> rfl
@[simp] theorem State.setReg8_status (s : State) (r : Reg8) (v : Byte) : (s.setReg8 r v).status = s.status := by cases r <;> rfl
@[simp] theorem State.setReg8_mem (s : State) (r : Reg8) (v : Byte) : (s.setReg8 r v).mem = s.mem := by cases r <;> rfl
@[simp] theorem State.setReg8_tick (s : State) (r : Reg8) (v : Byte) : (s.setReg8 r v).tick = s.tick := by cases r <;> rfl
@[simp] theorem State.setReg8_events (s : State) (r : Reg8) (v : Byte) : (s.setReg8 r v).events = s.events := by cases r <;> rfl
@[simp] theorem State.setReg8_draws (s : State) (r : Reg8) (v : Byte) : (s.setReg8 r v).draws = s.draws := by cases r <;> rfl
@[simp] theorem State.setReg8_irq (s : State) (r : Reg8) (v : Byte) : (s.setReg8 r v).irq = s.irq := by cases r <;> rfl

@[simp] theorem State.setReg8_unwritten (s : State) (r : Reg8) (v : Byte) :
    (s.setReg8 r v).unwritten = s.unwritten.filter fun n => !([regName r].contains n) := by cases r <;> rfl

/-- A write to one 8-bit register changes that register alone (R101, R103). -/
@[simp] theorem State.setReg8_reg8 (s : State) (r q : Reg8) (v : Byte) :
    (s.setReg8 r v).reg8 q = if q = r then v else s.reg8 q := by cases r <;> cases q <;> rfl

theorem State.setReg8_a (s : State) (r : Reg8) (v : Byte) :
    (s.setReg8 r v).a = if r = .a then v else s.a := by cases r <;> rfl
theorem State.setReg8_b (s : State) (r : Reg8) (v : Byte) :
    (s.setReg8 r v).b = if r = .b then v else s.b := by cases r <;> rfl
theorem State.setReg8_c (s : State) (r : Reg8) (v : Byte) :
    (s.setReg8 r v).c = if r = .c then v else s.c := by cases r <;> rfl
theorem State.setReg8_d (s : State) (r : Reg8) (v : Byte) :
    (s.setReg8 r v).d = if r = .d then v else s.d := by cases r <;> rfl
theorem State.setReg8_e (s : State) (r : Reg8) (v : Byte) :
    (s.setReg8 r v).e = if r = .e then v else s.e := by cases r <;> rfl
theorem State.setReg8_h (s : State) (r : Reg8) (v : Byte) :
    (s.setReg8 r v).h = if r = .h then v else s.h := by cases r <;> rfl
theorem State.setReg8_l (s : State) (r : Reg8) (v : Byte) :
    (s.setReg8 r v).l = if r = .l then v else s.l := by cases r <;> rfl

/-! ### `setReg16` -/

@[simp] theorem State.setReg16_pc (s : State) (r : Reg16) (v : Word) : (s.setReg16 r v).pc = s.pc := by cases r <;> rfl
@[simp] theorem State.setReg16_ime (s : State) (r : Reg16) (v : Word) : (s.setReg16 r v).ime = s.ime := by cases r <;> rfl
@[simp] theorem State.setReg16_imeSched (s : State) (r : Reg16) (v : Word) : (s.setReg16 r v).imeSched = s.imeSched := by cases r <;> rfl
@[simp] theorem State.setReg16_halted (s : State) (r : Reg16) (v : Word) : (s.setReg16 r v).halted = s.halted := by cases r <;> rfl
@[simp] theorem State.setReg16_remaining (s : State) (r : Reg16) (v : Word) : (s.setReg16 r v).remaining = s.remaining := by cases r <;> rfl
@[simp] theorem State.setReg16_dmaWindow (s : State) (r : Reg16) (v : Word) : (s.setReg16 r v).dmaWindow = s.dmaWindow := by cases r <;> rfl
@[simp] theorem State.setReg16_status (s : State) (r : Reg16) (v : Word) : (s.setReg16 r v).status = s.status := by cases r <;> rfl
@[simp] theorem State.setReg16_mem (s : State) (r : Reg16) (v : Word) : (s.setReg16 r v).mem = s.mem := by cases r <;> rfl
@[simp] theorem State.setReg16_tick (s : State) (r : Reg16) (v : Word) : (s.setReg16 r v).tick = s.tick := by cases r <;> rfl
@[simp] theorem State.setReg16_events (s : State) (r : Reg16) (v : Word) : (s.setReg16 r v).events = s.events := by cases r <;> rfl
@[simp] theorem State.setReg16_draws (s : State) (r : Reg16) (v : Word) : (s.setReg16 r v).draws = s.draws := by cases r <;> rfl
@[simp] theorem State.setReg16_irq (s : State) (r : Reg16) (v : Word) : (s.setReg16 r v).irq = s.irq := by cases r <;> rfl

@[simp] theorem State.setReg16_unwritten (s : State) (r : Reg16) (v : Word) :
    (s.setReg16 r v).unwritten = s.unwritten.filter fun n => !(reg16Names r).contains n := by cases r <;> rfl

@[simp] theorem State.setSp_sp (s : State) (v : Word) : (s.setReg16 .sp v).sp = v := rfl
@[simp] theorem State.setSp_reg8 (s : State) (v : Word) (r : Reg8) : (s.setReg16 .sp v).reg8 r = s.reg8 r := by
  cases r <;> rfl
@[simp] theorem State.setSp_flags (s : State) (v : Word) : (s.setReg16 .sp v).flags = s.flags := rfl

@[simp] theorem State.setSp_a (s : State) (v : Word) : (s.setReg16 .sp v).a = s.a := rfl
@[simp] theorem State.setSp_b (s : State) (v : Word) : (s.setReg16 .sp v).b = s.b := rfl
@[simp] theorem State.setSp_c (s : State) (v : Word) : (s.setReg16 .sp v).c = s.c := rfl
@[simp] theorem State.setSp_d (s : State) (v : Word) : (s.setReg16 .sp v).d = s.d := rfl
@[simp] theorem State.setSp_e (s : State) (v : Word) : (s.setReg16 .sp v).e = s.e := rfl
@[simp] theorem State.setSp_h (s : State) (v : Word) : (s.setReg16 .sp v).h = s.h := rfl
@[simp] theorem State.setSp_l (s : State) (v : Word) : (s.setReg16 .sp v).l = s.l := rfl

/-! ### `setFlags` -/

@[simp] theorem State.setFlags_a (s : State) (z n h c : Option Bool) : (s.setFlags z n h c).a = s.a := rfl
@[simp] theorem State.setFlags_b (s : State) (z n h c : Option Bool) : (s.setFlags z n h c).b = s.b := rfl
@[simp] theorem State.setFlags_c (s : State) (z n h c : Option Bool) : (s.setFlags z n h c).c = s.c := rfl
@[simp] theorem State.setFlags_d (s : State) (z n h c : Option Bool) : (s.setFlags z n h c).d = s.d := rfl
@[simp] theorem State.setFlags_e (s : State) (z n h c : Option Bool) : (s.setFlags z n h c).e = s.e := rfl
@[simp] theorem State.setFlags_h (s : State) (z n h c : Option Bool) : (s.setFlags z n h c).h = s.h := rfl
@[simp] theorem State.setFlags_l (s : State) (z n h c : Option Bool) : (s.setFlags z n h c).l = s.l := rfl
@[simp] theorem State.setFlags_sp (s : State) (z n h c : Option Bool) : (s.setFlags z n h c).sp = s.sp := rfl
@[simp] theorem State.setFlags_pc (s : State) (z n h c : Option Bool) : (s.setFlags z n h c).pc = s.pc := rfl
@[simp] theorem State.setFlags_ime (s : State) (z n h c : Option Bool) : (s.setFlags z n h c).ime = s.ime := rfl
@[simp] theorem State.setFlags_imeSched (s : State) (z n h c : Option Bool) : (s.setFlags z n h c).imeSched = s.imeSched := rfl
@[simp] theorem State.setFlags_halted (s : State) (z n h c : Option Bool) : (s.setFlags z n h c).halted = s.halted := rfl
@[simp] theorem State.setFlags_remaining (s : State) (z n h c : Option Bool) : (s.setFlags z n h c).remaining = s.remaining := rfl
@[simp] theorem State.setFlags_dmaWindow (s : State) (z n h c : Option Bool) : (s.setFlags z n h c).dmaWindow = s.dmaWindow := rfl
@[simp] theorem State.setFlags_status (s : State) (z n h c : Option Bool) : (s.setFlags z n h c).status = s.status := rfl
@[simp] theorem State.setFlags_mem (s : State) (z n h c : Option Bool) : (s.setFlags z n h c).mem = s.mem := rfl
@[simp] theorem State.setFlags_tick (s : State) (z n h c : Option Bool) : (s.setFlags z n h c).tick = s.tick := rfl
@[simp] theorem State.setFlags_events (s : State) (z n h c : Option Bool) : (s.setFlags z n h c).events = s.events := rfl
@[simp] theorem State.setFlags_draws (s : State) (z n h c : Option Bool) : (s.setFlags z n h c).draws = s.draws := rfl
@[simp] theorem State.setFlags_irq (s : State) (z n h c : Option Bool) : (s.setFlags z n h c).irq = s.irq := rfl

@[simp] theorem State.setFlags_unwritten (s : State) (z n h c : Option Bool) :
    (s.setFlags z n h c).unwritten = s.unwritten.filter fun x => !(flagNames z n h c).contains x := rfl
@[simp] theorem State.setFlags_flagZ (s : State) (z n h c : Option Bool) :
    (s.setFlags z n h c).flags.z = keepOr s.flags.z z := rfl
@[simp] theorem State.setFlags_flagN (s : State) (z n h c : Option Bool) :
    (s.setFlags z n h c).flags.n = keepOr s.flags.n n := rfl
@[simp] theorem State.setFlags_flagH (s : State) (z n h c : Option Bool) :
    (s.setFlags z n h c).flags.h = keepOr s.flags.h h := rfl
@[simp] theorem State.setFlags_flagC (s : State) (z n h c : Option Bool) :
    (s.setFlags z n h c).flags.c = keepOr s.flags.c c := rfl
@[simp] theorem State.setFlags_reg8 (s : State) (z n h c : Option Bool) (r : Reg8) :
    (s.setFlags z n h c).reg8 r = s.reg8 r := by cases r <;> rfl
@[simp] theorem State.setFlags_reg16 (s : State) (z n h c : Option Bool) :
    (s.setFlags z n h c).reg16 .hl = s.reg16 .hl := rfl
@[simp] theorem keepOr_none (b : Bool) : keepOr b none = b := rfl
@[simp] theorem keepOr_some (b c : Bool) : keepOr b (some c) = c := rfl

/-! ### `setPc` -/

@[simp] theorem State.setPc_a (s : State) (w : Word) : (s.setPc w).a = s.a := rfl
@[simp] theorem State.setPc_b (s : State) (w : Word) : (s.setPc w).b = s.b := rfl
@[simp] theorem State.setPc_c (s : State) (w : Word) : (s.setPc w).c = s.c := rfl
@[simp] theorem State.setPc_d (s : State) (w : Word) : (s.setPc w).d = s.d := rfl
@[simp] theorem State.setPc_e (s : State) (w : Word) : (s.setPc w).e = s.e := rfl
@[simp] theorem State.setPc_h (s : State) (w : Word) : (s.setPc w).h = s.h := rfl
@[simp] theorem State.setPc_l (s : State) (w : Word) : (s.setPc w).l = s.l := rfl
@[simp] theorem State.setPc_flags (s : State) (w : Word) : (s.setPc w).flags = s.flags := rfl
@[simp] theorem State.setPc_sp (s : State) (w : Word) : (s.setPc w).sp = s.sp := rfl
@[simp] theorem State.setPc_ime (s : State) (w : Word) : (s.setPc w).ime = s.ime := rfl
@[simp] theorem State.setPc_imeSched (s : State) (w : Word) : (s.setPc w).imeSched = s.imeSched := rfl
@[simp] theorem State.setPc_halted (s : State) (w : Word) : (s.setPc w).halted = s.halted := rfl
@[simp] theorem State.setPc_remaining (s : State) (w : Word) : (s.setPc w).remaining = s.remaining := rfl
@[simp] theorem State.setPc_dmaWindow (s : State) (w : Word) : (s.setPc w).dmaWindow = s.dmaWindow := rfl
@[simp] theorem State.setPc_status (s : State) (w : Word) : (s.setPc w).status = s.status := rfl
@[simp] theorem State.setPc_unwritten (s : State) (w : Word) : (s.setPc w).unwritten = s.unwritten := rfl
@[simp] theorem State.setPc_mem (s : State) (w : Word) : (s.setPc w).mem = s.mem := rfl
@[simp] theorem State.setPc_tick (s : State) (w : Word) : (s.setPc w).tick = s.tick := rfl
@[simp] theorem State.setPc_events (s : State) (w : Word) : (s.setPc w).events = s.events := rfl
@[simp] theorem State.setPc_draws (s : State) (w : Word) : (s.setPc w).draws = s.draws := rfl
@[simp] theorem State.setPc_irq (s : State) (w : Word) : (s.setPc w).irq = s.irq := rfl

@[simp] theorem State.setPc_pc (s : State) (w : Word) : (s.setPc w).pc = w := rfl
@[simp] theorem State.setPc_reg8 (s : State) (w : Word) (r : Reg8) : (s.setPc w).reg8 r = s.reg8 r := by cases r <;> rfl
@[simp] theorem State.setPc_reg16 (s : State) (w : Word) (r : Reg16) : (s.setPc w).reg16 r = s.reg16 r := by
  cases r <;> rfl

/-! ### `owing` -/

@[simp] theorem State.owing_a (s : State) (k : Nat) : (s.owing k).a = s.a := rfl
@[simp] theorem State.owing_b (s : State) (k : Nat) : (s.owing k).b = s.b := rfl
@[simp] theorem State.owing_c (s : State) (k : Nat) : (s.owing k).c = s.c := rfl
@[simp] theorem State.owing_d (s : State) (k : Nat) : (s.owing k).d = s.d := rfl
@[simp] theorem State.owing_e (s : State) (k : Nat) : (s.owing k).e = s.e := rfl
@[simp] theorem State.owing_h (s : State) (k : Nat) : (s.owing k).h = s.h := rfl
@[simp] theorem State.owing_l (s : State) (k : Nat) : (s.owing k).l = s.l := rfl
@[simp] theorem State.owing_flags (s : State) (k : Nat) : (s.owing k).flags = s.flags := rfl
@[simp] theorem State.owing_sp (s : State) (k : Nat) : (s.owing k).sp = s.sp := rfl
@[simp] theorem State.owing_pc (s : State) (k : Nat) : (s.owing k).pc = s.pc := rfl
@[simp] theorem State.owing_ime (s : State) (k : Nat) : (s.owing k).ime = s.ime := rfl
@[simp] theorem State.owing_imeSched (s : State) (k : Nat) : (s.owing k).imeSched = s.imeSched := rfl
@[simp] theorem State.owing_halted (s : State) (k : Nat) : (s.owing k).halted = s.halted := rfl
@[simp] theorem State.owing_dmaWindow (s : State) (k : Nat) : (s.owing k).dmaWindow = s.dmaWindow := rfl
@[simp] theorem State.owing_status (s : State) (k : Nat) : (s.owing k).status = s.status := rfl
@[simp] theorem State.owing_unwritten (s : State) (k : Nat) : (s.owing k).unwritten = s.unwritten := rfl
@[simp] theorem State.owing_mem (s : State) (k : Nat) : (s.owing k).mem = s.mem := rfl
@[simp] theorem State.owing_tick (s : State) (k : Nat) : (s.owing k).tick = s.tick := rfl
@[simp] theorem State.owing_events (s : State) (k : Nat) : (s.owing k).events = s.events := rfl
@[simp] theorem State.owing_draws (s : State) (k : Nat) : (s.owing k).draws = s.draws := rfl
@[simp] theorem State.owing_irq (s : State) (k : Nat) : (s.owing k).irq = s.irq := rfl

@[simp] theorem State.owing_reg8 (s : State) (k : Nat) (r : Reg8) : (s.owing k).reg8 r = s.reg8 r := by cases r <;> rfl
@[simp] theorem State.owing_remaining (s : State) (k : Nat) : (s.owing k).remaining = k := rfl

/-! ### `acknowledge` -/

@[simp] theorem State.acknowledge_a (s : State) (w : Word) : (s.acknowledge w).a = s.a := rfl
@[simp] theorem State.acknowledge_b (s : State) (w : Word) : (s.acknowledge w).b = s.b := rfl
@[simp] theorem State.acknowledge_c (s : State) (w : Word) : (s.acknowledge w).c = s.c := rfl
@[simp] theorem State.acknowledge_d (s : State) (w : Word) : (s.acknowledge w).d = s.d := rfl
@[simp] theorem State.acknowledge_e (s : State) (w : Word) : (s.acknowledge w).e = s.e := rfl
@[simp] theorem State.acknowledge_h (s : State) (w : Word) : (s.acknowledge w).h = s.h := rfl
@[simp] theorem State.acknowledge_l (s : State) (w : Word) : (s.acknowledge w).l = s.l := rfl
@[simp] theorem State.acknowledge_flags (s : State) (w : Word) : (s.acknowledge w).flags = s.flags := rfl
@[simp] theorem State.acknowledge_sp (s : State) (w : Word) : (s.acknowledge w).sp = s.sp := rfl
@[simp] theorem State.acknowledge_pc (s : State) (w : Word) : (s.acknowledge w).pc = s.pc := rfl
@[simp] theorem State.acknowledge_ime (s : State) (w : Word) : (s.acknowledge w).ime = s.ime := rfl
@[simp] theorem State.acknowledge_imeSched (s : State) (w : Word) : (s.acknowledge w).imeSched = s.imeSched := rfl
@[simp] theorem State.acknowledge_halted (s : State) (w : Word) : (s.acknowledge w).halted = s.halted := rfl
@[simp] theorem State.acknowledge_remaining (s : State) (w : Word) : (s.acknowledge w).remaining = s.remaining := rfl
@[simp] theorem State.acknowledge_dmaWindow (s : State) (w : Word) : (s.acknowledge w).dmaWindow = s.dmaWindow := rfl
@[simp] theorem State.acknowledge_status (s : State) (w : Word) : (s.acknowledge w).status = s.status := rfl
@[simp] theorem State.acknowledge_unwritten (s : State) (w : Word) : (s.acknowledge w).unwritten = s.unwritten := rfl
@[simp] theorem State.acknowledge_mem (s : State) (w : Word) : (s.acknowledge w).mem = s.mem := rfl
@[simp] theorem State.acknowledge_tick (s : State) (w : Word) : (s.acknowledge w).tick = s.tick := rfl
@[simp] theorem State.acknowledge_draws (s : State) (w : Word) : (s.acknowledge w).draws = s.draws := rfl
@[simp] theorem State.acknowledge_irq (s : State) (w : Word) : (s.acknowledge w).irq = s.irq := rfl

/-! ### `afterRead` -/

@[simp] theorem State.afterRead_a (s : State) (w : Word) : (s.afterRead w).a = s.a := by
  unfold State.afterRead; split <;> (try split) <;> rfl
@[simp] theorem State.afterRead_b (s : State) (w : Word) : (s.afterRead w).b = s.b := by
  unfold State.afterRead; split <;> (try split) <;> rfl
@[simp] theorem State.afterRead_c (s : State) (w : Word) : (s.afterRead w).c = s.c := by
  unfold State.afterRead; split <;> (try split) <;> rfl
@[simp] theorem State.afterRead_d (s : State) (w : Word) : (s.afterRead w).d = s.d := by
  unfold State.afterRead; split <;> (try split) <;> rfl
@[simp] theorem State.afterRead_e (s : State) (w : Word) : (s.afterRead w).e = s.e := by
  unfold State.afterRead; split <;> (try split) <;> rfl
@[simp] theorem State.afterRead_h (s : State) (w : Word) : (s.afterRead w).h = s.h := by
  unfold State.afterRead; split <;> (try split) <;> rfl
@[simp] theorem State.afterRead_l (s : State) (w : Word) : (s.afterRead w).l = s.l := by
  unfold State.afterRead; split <;> (try split) <;> rfl
@[simp] theorem State.afterRead_flags (s : State) (w : Word) : (s.afterRead w).flags = s.flags := by
  unfold State.afterRead; split <;> (try split) <;> rfl
@[simp] theorem State.afterRead_sp (s : State) (w : Word) : (s.afterRead w).sp = s.sp := by
  unfold State.afterRead; split <;> (try split) <;> rfl
@[simp] theorem State.afterRead_pc (s : State) (w : Word) : (s.afterRead w).pc = s.pc := by
  unfold State.afterRead; split <;> (try split) <;> rfl
@[simp] theorem State.afterRead_ime (s : State) (w : Word) : (s.afterRead w).ime = s.ime := by
  unfold State.afterRead; split <;> (try split) <;> rfl
@[simp] theorem State.afterRead_imeSched (s : State) (w : Word) : (s.afterRead w).imeSched = s.imeSched := by
  unfold State.afterRead; split <;> (try split) <;> rfl
@[simp] theorem State.afterRead_halted (s : State) (w : Word) : (s.afterRead w).halted = s.halted := by
  unfold State.afterRead; split <;> (try split) <;> rfl
@[simp] theorem State.afterRead_remaining (s : State) (w : Word) : (s.afterRead w).remaining = s.remaining := by
  unfold State.afterRead; split <;> (try split) <;> rfl
@[simp] theorem State.afterRead_dmaWindow (s : State) (w : Word) : (s.afterRead w).dmaWindow = s.dmaWindow := by
  unfold State.afterRead; split <;> (try split) <;> rfl
@[simp] theorem State.afterRead_status (s : State) (w : Word) : (s.afterRead w).status = s.status := by
  unfold State.afterRead; split <;> (try split) <;> rfl
@[simp] theorem State.afterRead_unwritten (s : State) (w : Word) : (s.afterRead w).unwritten = s.unwritten := by
  unfold State.afterRead; split <;> (try split) <;> rfl
@[simp] theorem State.afterRead_mem (s : State) (w : Word) : (s.afterRead w).mem = s.mem := by
  unfold State.afterRead; split <;> (try split) <;> rfl
@[simp] theorem State.afterRead_tick (s : State) (w : Word) : (s.afterRead w).tick = s.tick := by
  unfold State.afterRead; split <;> (try split) <;> rfl
@[simp] theorem State.afterRead_irq (s : State) (w : Word) : (s.afterRead w).irq = s.irq := by
  unfold State.afterRead; split <;> (try split) <;> rfl

@[simp] theorem State.afterRead_reg8 (s : State) (w : Word) (r : Reg8) : (s.afterRead w).reg8 r = s.reg8 r := by
  cases r <;> simp [State.reg8]
@[simp] theorem State.afterRead_reg16 (s : State) (w : Word) (r : Reg16) :
    (s.afterRead w).reg16 r = s.reg16 r := by cases r <;> simp [State.reg16]

/-! ### `afterWrite` -/

@[simp] theorem State.afterWrite_a (s : State) (w : Word) (v : Byte) : (s.afterWrite w v).a = s.a := by
  unfold State.afterWrite; split <;> (try split) <;> rfl
@[simp] theorem State.afterWrite_b (s : State) (w : Word) (v : Byte) : (s.afterWrite w v).b = s.b := by
  unfold State.afterWrite; split <;> (try split) <;> rfl
@[simp] theorem State.afterWrite_c (s : State) (w : Word) (v : Byte) : (s.afterWrite w v).c = s.c := by
  unfold State.afterWrite; split <;> (try split) <;> rfl
@[simp] theorem State.afterWrite_d (s : State) (w : Word) (v : Byte) : (s.afterWrite w v).d = s.d := by
  unfold State.afterWrite; split <;> (try split) <;> rfl
@[simp] theorem State.afterWrite_e (s : State) (w : Word) (v : Byte) : (s.afterWrite w v).e = s.e := by
  unfold State.afterWrite; split <;> (try split) <;> rfl
@[simp] theorem State.afterWrite_h (s : State) (w : Word) (v : Byte) : (s.afterWrite w v).h = s.h := by
  unfold State.afterWrite; split <;> (try split) <;> rfl
@[simp] theorem State.afterWrite_l (s : State) (w : Word) (v : Byte) : (s.afterWrite w v).l = s.l := by
  unfold State.afterWrite; split <;> (try split) <;> rfl
@[simp] theorem State.afterWrite_flags (s : State) (w : Word) (v : Byte) : (s.afterWrite w v).flags = s.flags := by
  unfold State.afterWrite; split <;> (try split) <;> rfl
@[simp] theorem State.afterWrite_sp (s : State) (w : Word) (v : Byte) : (s.afterWrite w v).sp = s.sp := by
  unfold State.afterWrite; split <;> (try split) <;> rfl
@[simp] theorem State.afterWrite_pc (s : State) (w : Word) (v : Byte) : (s.afterWrite w v).pc = s.pc := by
  unfold State.afterWrite; split <;> (try split) <;> rfl
@[simp] theorem State.afterWrite_ime (s : State) (w : Word) (v : Byte) : (s.afterWrite w v).ime = s.ime := by
  unfold State.afterWrite; split <;> (try split) <;> rfl
@[simp] theorem State.afterWrite_imeSched (s : State) (w : Word) (v : Byte) : (s.afterWrite w v).imeSched = s.imeSched := by
  unfold State.afterWrite; split <;> (try split) <;> rfl
@[simp] theorem State.afterWrite_halted (s : State) (w : Word) (v : Byte) : (s.afterWrite w v).halted = s.halted := by
  unfold State.afterWrite; split <;> (try split) <;> rfl
@[simp] theorem State.afterWrite_remaining (s : State) (w : Word) (v : Byte) : (s.afterWrite w v).remaining = s.remaining := by
  unfold State.afterWrite; split <;> (try split) <;> rfl
@[simp] theorem State.afterWrite_status (s : State) (w : Word) (v : Byte) : (s.afterWrite w v).status = s.status := by
  unfold State.afterWrite; split <;> (try split) <;> rfl
@[simp] theorem State.afterWrite_unwritten (s : State) (w : Word) (v : Byte) : (s.afterWrite w v).unwritten = s.unwritten := by
  unfold State.afterWrite; split <;> (try split) <;> rfl
@[simp] theorem State.afterWrite_tick (s : State) (w : Word) (v : Byte) : (s.afterWrite w v).tick = s.tick := by
  unfold State.afterWrite; split <;> (try split) <;> rfl
@[simp] theorem State.afterWrite_irq (s : State) (w : Word) (v : Byte) : (s.afterWrite w v).irq = s.irq := by
  unfold State.afterWrite; split <;> (try split) <;> rfl

@[simp] theorem State.afterWrite_reg8 (s : State) (w : Word) (v : Byte) (r : Reg8) :
    (s.afterWrite w v).reg8 r = s.reg8 r := by cases r <;> simp [State.reg8]
@[simp] theorem State.afterWrite_reg16 (s : State) (w : Word) (v : Byte) (r : Reg16) :
    (s.afterWrite w v).reg16 r = s.reg16 r := by cases r <;> simp [State.reg16]

end Sys2Proof.Machine
end

