-- ==== Sys2Proof/Laws/Ops.lean ====
section
/-! SUPPORT. What each named operation can do, once: sequencing, checked reads, bus accesses, fetches,
the stack, interrupt entry. -/
namespace Sys2Proof.Machine

open Sys2Proof

variable {α β : Type}

/-! ### Sequencing -/

@[simp] theorem Result.next_andThen (v : α) (f : α → Result β) :
    Result.andThen (.next v : Result α) f = f v := rfl
@[simp] theorem Result.fault_andThen (r : Fault) (f : α → Result β) :
    Result.andThen (.fault r : Result α) f = .fault r := rfl
@[simp] theorem Result.refused_andThen (r : Refusal) (f : α → Result β) :
    Result.andThen (.refused r : Result α) f = .refused r := rfl

/-- A sequence answers next exactly when both parts do. -/
theorem Result.andThen_next {x : Result α} {f : α → Result β} {w : β} :
    x.andThen f = .next w ↔ ∃ v, x = .next v ∧ f v = .next w := by
  cases x <;> simp

/-! ### Slots -/

@[simp] theorem State.reg16_sp (s : State) : s.reg16 .sp = s.sp := rfl
@[simp] theorem reg16Names_sp : reg16Names .sp = [.sp] := rfl

theorem checked_of_holds {names : List RegName} {s : State} (h : s.Holds names) (v : α) :
    checked names v s = .next v := by
  have : (names.find? fun n => s.unwritten.contains n) = none := by
    rw [List.find?_eq_none]
    intro n hn
    simpa using h n hn
  simp only [checked, this]

theorem checked_next {names : List RegName} {s : State} {v w : α} :
    checked names v s = .next w ↔ s.Holds names ∧ w = v := by
  constructor
  · intro h
    unfold checked at h
    split at h
    · rename_i hf
      rw [List.find?_eq_none] at hf
      refine ⟨fun n hn => by simpa using hf n hn, ?_⟩
      cases h; rfl
    · cases h
  · rintro ⟨h, rfl⟩
    exact checked_of_holds h _

theorem readReg8_next {r : Reg8} {s : State} {v : Byte} :
    readReg8 r s = .next v ↔ s.Holds [regName r] ∧ v = s.reg8 r := checked_next

theorem readReg16_next {r : Reg16} {s : State} {v : Word} :
    readReg16 r s = .next v ↔ s.Holds (reg16Names r) ∧ v = s.reg16 r := checked_next

theorem readC_next {s : State} {v : Bool} : readC s = .next v ↔ s.Holds [.fc] ∧ v = s.flags.c :=
  checked_next

theorem carryIn_next {u : Bool} {s : State} {v : Bool} :
    carryIn u s = .next v ↔ (u = true → s.Holds [.fc]) ∧ v = (u && s.flags.c) := by
  cases u
  · simp [carryIn, eq_comm]
  · simp [carryIn, readC_next]

theorem condHolds_next {cc : Cond} {s : State} {v : Bool} :
    condHolds cc s = .next v ↔ s.Holds (condNames cc) ∧ v = condOf cc s.flags := by
  cases cc <;>
    simp only [condHolds, readZ, readC, Result.andThen_next, checked_next, condNames, condOf]
  · simp [eq_comm]
  · simp [eq_comm]

theorem charge_next {cost : Nat} {s t : State} : charge cost s = .next t ↔ t = s.owing (cost - 1) := by
  simp [charge, eq_comm]

/-! ### The bus -/

theorem busRead_next {a : Word} {s : State} {p : Byte × State} :
    busRead a s = .next p ↔ s.Admits a ∧ p = (s.readVal a, s.afterRead a) := by
  unfold busRead dmaConflict
  cases h : s.busBlocked a <;> simp [State.Admits, h, @eq_comm _ p]

theorem busWrite_next {a : Word} {v : Byte} {s t : State} :
    busWrite a v s = .next t ↔ s.Admits a ∧ t = s.afterWrite a v := by
  unfold busWrite dmaConflict
  cases h : s.busBlocked a <;> simp [State.Admits, h, @eq_comm _ t]

/-- A bus access never faults (R214); in the DMA window it is refused (R228). -/
theorem busRead_blocked {a : Word} {s : State} (h : s.busBlocked a = true) :
    busRead a s = .refused (.dmaBusConflict (s.refused .dmaBusConflict)) := by
  simp [busRead, dmaConflict, h]

theorem busWrite_blocked {a : Word} {v : Byte} {s : State} (h : s.busBlocked a = true) :
    busWrite a v s = .refused (.dmaBusConflict (s.refused .dmaBusConflict)) := by
  simp [busWrite, dmaConflict, h]

/-- Whether an access is admitted depends on the DMA window alone. -/
theorem busBlocked_congr {s t : State} (h : t.dmaWindow = s.dmaWindow) (a : Word) :
    t.busBlocked a = s.busBlocked a := by
  simp [State.busBlocked, h]

@[simp] theorem busBlocked_afterRead (s : State) (b a : Word) :
    (s.afterRead b).busBlocked a = s.busBlocked a := busBlocked_congr (by simp) a
@[simp] theorem busBlocked_setReg8 (s : State) (r : Reg8) (v : Byte) (a : Word) :
    (s.setReg8 r v).busBlocked a = s.busBlocked a := busBlocked_congr (by simp) a
@[simp] theorem busBlocked_setReg16 (s : State) (r : Reg16) (v : Word) (a : Word) :
    (s.setReg16 r v).busBlocked a = s.busBlocked a := busBlocked_congr (by simp) a
@[simp] theorem busBlocked_setPc (s : State) (v : Word) (a : Word) :
    (s.setPc v).busBlocked a = s.busBlocked a := rfl

/-- A write leaves the DMA window as it was unless it goes to 0xFF46 (R137). -/
theorem afterWrite_dmaWindow (s : State) (a : Word) (v : Byte) :
    (s.afterWrite a v).dmaWindow = if a = 0xFF46#16 then Config.dmaWindow else s.dmaWindow := by
  by_cases h : a = 0xFF46#16
  · subst h; rfl
  · simp only [State.afterWrite, if_neg h]
    split <;> (try split) <;> rfl

theorem busBlocked_afterWrite (s : State) (b a : Word) (v : Byte) (h : b ≠ 0xFF46#16) :
    (s.afterWrite b v).busBlocked a = s.busBlocked a :=
  busBlocked_congr (by simp [afterWrite_dmaWindow, h]) a

/-- Right after a write to 0xFF46 every access outside HRAM is refused (R228). -/
theorem busBlocked_after_dma (s : State) (a : Word) (v : Byte) (h : region a ≠ .hram) :
    (s.afterWrite 0xFF46#16 v).busBlocked a = true := by
  simp [State.busBlocked, afterWrite_dmaWindow, Config.dmaWindow, h]

theorem busWrite16_next {a w : Word} {s t : State} :
    busWrite16 a w s = .next t ↔
      s.Store16Ready a ∧ t = (s.afterWrite a (loByte w)).afterWrite (a + 1) (hiByte w) := by
  simp only [busWrite16, Result.andThen_next, busWrite_next]
  by_cases h : a = 0xFF46#16
  · subst h
    have := busBlocked_after_dma s 0xFF47#16 (loByte w) (by decide)
    constructor
    · rintro ⟨_, ⟨-, rfl⟩, h2, -⟩
      have h2 : (s.afterWrite 0xFF46#16 (loByte w)).busBlocked 0xFF47#16 = false := h2
      simp [this] at h2
    · rintro ⟨⟨_, _, h3⟩, _⟩; exact absurd rfl h3
  · simp only [State.Store16Ready, State.Admits]
    constructor
    · rintro ⟨_, ⟨h1, rfl⟩, h2, rfl⟩
      rw [busBlocked_afterWrite _ _ _ _ h] at h2
      exact ⟨⟨h1, h2, h⟩, rfl⟩
    · rintro ⟨⟨h1, h2, _⟩, rfl⟩
      exact ⟨_, ⟨h1, rfl⟩, (busBlocked_afterWrite _ _ _ _ h).trans h2, rfl⟩

/-! ### Fetch -/

theorem fetch8_next {s : State} {p : Byte × State} :
    fetch8 s = .next p ↔ s.Admits s.pc ∧ p = (s.readVal s.pc, (s.afterRead s.pc).setPc (s.pc + 1)) := by
  simp only [fetch8, Result.andThen_next, busRead_next]
  constructor
  · rintro ⟨_, ⟨h, rfl⟩, hp⟩
    simp at hp
    exact ⟨h, hp.symm⟩
  · rintro ⟨h, rfl⟩
    exact ⟨_, ⟨h, rfl⟩, by simp⟩

/-! ### The stack -/

theorem pushByte_next {v : Byte} {s t : State} :
    pushByte v s = .next t ↔ s.Holds [.sp] ∧ s.Admits (s.sp - 1) ∧
      t = (s.setReg16 .sp (s.sp - 1)).afterWrite (s.sp - 1) v := by
  simp only [pushByte, Result.andThen_next, readReg16_next, busWrite_next]
  constructor
  · rintro ⟨_, ⟨h, rfl⟩, h1, rfl⟩
    exact ⟨h, by simpa [State.Admits] using h1, rfl⟩
  · rintro ⟨h, h1, rfl⟩
    exact ⟨_, ⟨h, rfl⟩, by simpa [State.Admits] using h1, rfl⟩

theorem holds_afterWrite (s : State) (a : Word) (v : Byte) (ns : List RegName) :
    (s.afterWrite a v).Holds ns ↔ s.Holds ns := by simp [State.Holds]

theorem holds_afterRead (s : State) (a : Word) (ns : List RegName) :
    (s.afterRead a).Holds ns ↔ s.Holds ns := by simp [State.Holds]

theorem push16_next {v : Word} {s t : State} :
    push16 v s = .next t ↔ s.PushReady ∧ t = s.afterPush v := by
  have e : s.sp - 1 - 1 = s.sp - 2 := by bv_omega
  simp only [push16, Result.andThen_next, pushByte_next, State.PushReady]
  have hne : s.sp - 1 = 0xFF46#16 ↔ s.sp = 0xFF47#16 := by constructor <;> intro h <;> bv_omega
  constructor
  · rintro ⟨_, ⟨h, h1, rfl⟩, h2, h3, rfl⟩
    simp only [State.afterWrite_sp, State.setSp_sp, e] at h3
    by_cases hs : s.sp = 0xFF47#16
    · exfalso
      rw [hne.2 hs] at h3
      have := busBlocked_after_dma (s.setReg16 .sp 0xFF46#16) (s.sp - 2) (hiByte v) (by rw [hs]; decide)
      rw [State.Admits, this] at h3
      cases h3
    · rw [State.Admits, busBlocked_afterWrite _ _ _ _ (fun hh => hs (hne.1 hh)),
        busBlocked_setReg16] at h3
      refine ⟨⟨h, h1, h3, hs⟩, ?_⟩
      simp only [State.afterPush, State.afterWrite_sp, State.setSp_sp, e]
  · rintro ⟨⟨h, h1, h2, h3⟩, rfl⟩
    refine ⟨_, ⟨h, h1, rfl⟩, ?_, ?_, ?_⟩
    · rw [holds_afterWrite]; simp [State.Holds]
    · rw [State.Admits, State.afterWrite_sp, State.setSp_sp]
      rw [busBlocked_afterWrite _ _ _ _ (fun hh => h3 (hne.1 hh)), busBlocked_setReg16, e]
      exact h2
    · simp only [State.afterPush, State.afterWrite_sp, State.setSp_sp, e]

theorem popByte_next {s : State} {p : Byte × State} :
    popByte s = .next p ↔ s.Holds [.sp] ∧ s.Admits s.sp ∧
      p = (s.readVal s.sp, (s.afterRead s.sp).setReg16 .sp (s.sp + 1)) := by
  simp only [popByte, Result.andThen_next, readReg16_next, busRead_next]
  constructor
  · rintro ⟨_, ⟨h, rfl⟩, _, ⟨h1, rfl⟩, hp⟩
    simp at hp
    exact ⟨h, h1, hp.symm⟩
  · rintro ⟨h, h1, rfl⟩
    exact ⟨_, ⟨h, rfl⟩, _, ⟨h1, rfl⟩, rfl⟩

/-- What a read answers does not depend on SP. -/
theorem readVal_setSp (s : State) (w a : Word) : (s.setReg16 .sp w).readVal a = s.readVal a := rfl

theorem pop16_next {s : State} {p : Word × State} :
    pop16 s = .next p ↔ s.PopReady ∧ p = (s.popVal, s.afterPop) := by
  have e : s.sp + 1 + 1 = s.sp + 2 := by bv_omega
  simp only [pop16, Result.andThen_next, popByte_next, State.PopReady]
  constructor
  · rintro ⟨_, ⟨h, h1, rfl⟩, _, ⟨h2, h3, rfl⟩, hp⟩
    simp only [State.setSp_sp, State.Admits, busBlocked_setReg16, busBlocked_afterRead] at h3
    refine ⟨⟨h, h1, h3⟩, ?_⟩
    simp only [State.setSp_sp, readVal_setSp, e, Host.Outcome.next.injEq] at hp
    rw [← hp]; rfl
  · rintro ⟨⟨h, h1, h3⟩, rfl⟩
    refine ⟨_, ⟨h, h1, rfl⟩, _, ⟨?_, ?_, rfl⟩, ?_⟩
    · simp [State.Holds]
    · simpa [State.Admits] using h3
    · simp only [State.setSp_sp, readVal_setSp, e]; rfl

/-! ### Interrupts -/

theorem interruptEntry_next {src : IntSource} {s t : State} :
    interruptEntry src s = .next t ↔
      s.PushReady ∧ s.sp ≠ 0x0000#16 ∧ s.sp ≠ 0x0001#16 ∧
        t = ((({ s with ime := false, imeSched := false }.acknowledge (intVector src)).afterPush s.pc).setPc
          (intVector src)).owing 4 := by
  simp only [interruptEntry, Result.andThen_next, readReg16_next, State.reg16_sp]
  constructor
  · rintro ⟨_, ⟨h, rfl⟩, h1⟩
    split at h1
    · cases h1
    · rename_i hsp
      simp only [Result.andThen_next, push16_next, charge_next] at h1
      obtain ⟨_, ⟨hr, rfl⟩, rfl⟩ := h1
      exact ⟨hr, fun h => hsp (.inl h), fun h => hsp (.inr h), rfl⟩
  · rintro ⟨hr, h0, h1, rfl⟩
    refine ⟨_, ⟨hr.1, rfl⟩, ?_⟩
    rw [if_neg (by rintro (h | h) <;> contradiction)]
    simp only [Result.andThen_next, push16_next, charge_next]
    exact ⟨_, ⟨hr, rfl⟩, rfl⟩

theorem returnToCaller_next {s t : State} :
    returnToCaller s = .next t ↔ s.PopReady ∧ t = s.afterPop.setPc s.popVal := by
  simp only [returnToCaller, Result.andThen_next, pop16_next]
  constructor
  · rintro ⟨_, ⟨h, rfl⟩, ht⟩
    cases ht
    exact ⟨h, rfl⟩
  · rintro ⟨h, rfl⟩
    exact ⟨_, ⟨h, rfl⟩, rfl⟩

end Sys2Proof.Machine
end

