-- ==== Sys2Proof/Laws/Operands.lean ====
section
/-! SUPPORT. What resolving and writing an operand form can do, once per operation (R400 to R411). -/
namespace Sys2Proof.Machine

open Sys2Proof

/-! ### The forms, one by one -/

@[simp] theorem indReg16_bc : indReg16 .bc = .bc := rfl
@[simp] theorem indReg16_de : indReg16 .de = .de := rfl
@[simp] theorem indReg16_hl : indReg16 .hl = .hl := rfl
@[simp] theorem reg16Names_bc : reg16Names .bc = [.b, .c] := rfl
@[simp] theorem reg16Names_de : reg16Names .de = [.d, .e] := rfl
@[simp] theorem reg16Names_hl : reg16Names .hl = [.h, .l] := rfl
@[simp] theorem regName_a : regName .a = .a := rfl
@[simp] theorem holds_nil (s : State) : s.Holds [] := by simp [State.Holds]
@[simp] theorem admitsOpt_none (s : State) : s.AdmitsOpt none := by simp [State.AdmitsOpt]
@[simp] theorem admitsOpt_some (s : State) (w : Word) : s.AdmitsOpt (some w) ↔ s.Admits w := by
  simp [State.AdmitsOpt]
@[simp] theorem srcNames_imm8 (n : Byte) : srcNames (.imm8 n) = [] := rfl
@[simp] theorem srcAddr_imm8 (n : Byte) (s : State) : srcAddr (.imm8 n) s = none := rfl
@[simp] theorem srcNames_reg (r : Reg8) : srcNames (.reg r) = [regName r] := rfl
@[simp] theorem srcAddr_reg (r : Reg8) (s : State) : srcAddr (.reg r) s = none := rfl
@[simp] theorem tgtNames_reg (r : Reg8) : tgtNames (.reg r) = [] := rfl
@[simp] theorem tgtAddr_reg (r : Reg8) (s : State) : tgtAddr (.reg r) s = none := rfl
@[simp] theorem srcNames_ind (rr : IndReg) : srcNames (.ind rr) = reg16Names (indReg16 rr) := rfl
@[simp] theorem srcAddr_ind (rr : IndReg) (s : State) : srcAddr (.ind rr) s = some (s.reg16 (indReg16 rr)) := rfl
@[simp] theorem tgtNames_ind (rr : IndReg) : tgtNames (.ind rr) = reg16Names (indReg16 rr) := rfl
@[simp] theorem tgtAddr_ind (rr : IndReg) (s : State) : tgtAddr (.ind rr) s = some (s.reg16 (indReg16 rr)) := rfl
@[simp] theorem srcNames_indhiC : srcNames .indhiC = [.c] := rfl
@[simp] theorem srcAddr_indhiC (s : State) : srcAddr .indhiC s = some (highPage s.c) := rfl
@[simp] theorem tgtNames_indhiC : tgtNames .indhiC = [.c] := rfl
@[simp] theorem tgtAddr_indhiC (s : State) : tgtAddr .indhiC s = some (highPage s.c) := rfl
@[simp] theorem srcNames_ind16 (w : Word) : srcNames (.ind16 w) = [] := rfl
@[simp] theorem srcAddr_ind16 (w : Word) (s : State) : srcAddr (.ind16 w) s = some w := rfl
@[simp] theorem tgtNames_ind16 (w : Word) : tgtNames (.ind16 w) = [] := rfl
@[simp] theorem tgtAddr_ind16 (w : Word) (s : State) : tgtAddr (.ind16 w) s = some w := rfl
@[simp] theorem srcNames_indhi8 (n : Byte) : srcNames (.indhi8 n) = [] := rfl
@[simp] theorem srcAddr_indhi8 (n : Byte) (s : State) : srcAddr (.indhi8 n) s = some (highPage n) := rfl
@[simp] theorem tgtNames_indhi8 (n : Byte) : tgtNames (.indhi8 n) = [] := rfl
@[simp] theorem tgtAddr_indhi8 (n : Byte) (s : State) : tgtAddr (.indhi8 n) s = some (highPage n) := rfl

/-! ### What a resolved source leaves alone -/

section
variable (s : State) (src : Src8)

@[simp] theorem State.afterSrc_reg8 (r : Reg8) : (s.afterSrc src).reg8 r = s.reg8 r := by
  unfold State.afterSrc; split <;> simp
@[simp] theorem State.afterSrc_reg16 (r : Reg16) : (s.afterSrc src).reg16 r = s.reg16 r := by
  unfold State.afterSrc; split <;> simp
@[simp] theorem State.afterSrc_flags : (s.afterSrc src).flags = s.flags := by
  unfold State.afterSrc; split <;> simp
@[simp] theorem State.afterSrc_a : (s.afterSrc src).a = s.a := by
  unfold State.afterSrc; split <;> simp
@[simp] theorem State.afterSrc_c : (s.afterSrc src).c = s.c := by
  unfold State.afterSrc; split <;> simp
@[simp] theorem State.afterSrc_unwritten : (s.afterSrc src).unwritten = s.unwritten := by
  unfold State.afterSrc; split <;> simp
@[simp] theorem State.afterSrc_mem : (s.afterSrc src).mem = s.mem := by
  unfold State.afterSrc; split <;> simp
@[simp] theorem State.afterSrc_dmaWindow : (s.afterSrc src).dmaWindow = s.dmaWindow := by
  unfold State.afterSrc; split <;> simp
@[simp] theorem busBlocked_afterSrc (a : Word) : (s.afterSrc src).busBlocked a = s.busBlocked a :=
  busBlocked_congr (by simp) a
@[simp] theorem holds_afterSrc (ns : List RegName) : (s.afterSrc src).Holds ns ↔ s.Holds ns := by
  simp [State.Holds]
@[simp] theorem admitsOpt_afterSrc (o : Option Word) : (s.afterSrc src).AdmitsOpt o ↔ s.AdmitsOpt o := by
  simp [State.AdmitsOpt, State.Admits]
@[simp] theorem tgtAddr_afterSrc (tgt : Tgt8) : tgtAddr tgt (s.afterSrc src) = tgtAddr tgt s := by
  cases tgt <;> simp [tgtAddr]
end

/-! ### Resolving and writing -/

theorem resolveSource8_next {src : Src8} {s : State} {p : Byte × State} :
    resolveSource8 src s = .next p ↔
      s.Holds (srcNames src) ∧ s.AdmitsOpt (srcAddr src s) ∧ p = (s.srcVal src, s.afterSrc src) := by
  cases src <;>
    simp only [resolveSource8, Result.andThen_next, readReg8_next, readReg16_next, busRead_next,
      srcNames, srcAddr, State.AdmitsOpt, State.srcVal, State.afterSrc, Option.mem_def, Option.some.injEq,
      forall_eq', reduceCtorEq, false_imp_iff, implies_true, true_and, State.Holds, List.not_mem_nil,
      Host.Outcome.next.injEq]
  · exact eq_comm
  · constructor
    · rintro ⟨_, ⟨h, rfl⟩, rfl⟩; exact ⟨h, rfl⟩
    · rintro ⟨h, rfl⟩; exact ⟨_, ⟨h, rfl⟩, rfl⟩
  · constructor
    · rintro ⟨_, ⟨h, rfl⟩, h1, rfl⟩; exact ⟨h, h1, rfl⟩
    · rintro ⟨h, h1, rfl⟩; exact ⟨_, ⟨h, rfl⟩, h1, rfl⟩
  · constructor
    · rintro ⟨_, ⟨h, rfl⟩, h1, rfl⟩; exact ⟨h, h1, rfl⟩
    · rintro ⟨h, h1, rfl⟩; exact ⟨_, ⟨h, rfl⟩, h1, rfl⟩

theorem resolveTarget8_next {tgt : Tgt8} {s : State} {h : Handle8} :
    resolveTarget8 tgt s = .next h ↔ s.Holds (tgtNames tgt) ∧ h = s.handleOf tgt := by
  cases tgt <;>
    simp only [resolveTarget8, Result.andThen_next, readReg8_next, readReg16_next, tgtNames,
      State.handleOf, State.Holds, List.not_mem_nil, false_imp_iff, implies_true, true_and,
      Host.Outcome.next.injEq]
  · exact eq_comm
  · constructor
    · rintro ⟨_, ⟨h, rfl⟩, rfl⟩; exact ⟨h, rfl⟩
    · rintro ⟨h, rfl⟩; exact ⟨_, ⟨h, rfl⟩, rfl⟩
  · constructor
    · rintro ⟨_, ⟨h, rfl⟩, rfl⟩; exact ⟨h, rfl⟩
    · rintro ⟨h, rfl⟩; exact ⟨_, ⟨h, rfl⟩, rfl⟩
  · exact eq_comm
  · exact eq_comm

theorem writeHandle8_next {tgt : Tgt8} {v : Byte} {s t : State} :
    writeHandle8 (s.handleOf tgt) v s = .next t ↔
      s.AdmitsOpt (tgtAddr tgt s) ∧ t = s.afterTgt tgt v := by
  cases tgt <;>
    simp [State.handleOf, writeHandle8, busWrite_next, tgtAddr, State.AdmitsOpt, State.afterTgt, @eq_comm _ t]

theorem resolveSource16_next {src : Src16} {s : State} {v : Word} :
    resolveSource16 src s = .next v ↔
      match src with
      | .imm16 n => v = n
      | .reg rr => s.Holds (reg16Names rr) ∧ v = s.reg16 rr := by
  cases src
  · simp [resolveSource16, eq_comm]
  · exact readReg16_next

/-! ### What a written target leaves alone -/

section
variable (s : State) (tgt : Tgt8) (v : Byte)

@[simp] theorem State.afterTgt_sp : (s.afterTgt tgt v).sp = s.sp := by cases tgt <;> simp [State.afterTgt]
@[simp] theorem State.afterTgt_pc : (s.afterTgt tgt v).pc = s.pc := by cases tgt <;> simp [State.afterTgt]
@[simp] theorem State.afterTgt_flags : (s.afterTgt tgt v).flags = s.flags := by
  cases tgt <;> simp [State.afterTgt]
end

end Sys2Proof.Machine
end

