-- ==== Sys2Proof/Laws/Bus.lean ====
section
/-! SUPPORT. What bus accesses do to the stored bytes: the one account of memory that frames and
invariants rest on. -/
namespace Sys2Proof.Machine

open Sys2Proof

theorem stored_congr {s t : State} (h : t.mem = s.mem) (a : Word) : t.stored a = s.stored a := by
  simp [State.stored, h]

@[simp] theorem stored_afterRead (s : State) (b a : Word) : (s.afterRead b).stored a = s.stored a :=
  stored_congr (by simp) a
@[simp] theorem stored_afterSrc (s : State) (src : Src8) (a : Word) :
    (s.afterSrc src).stored a = s.stored a := stored_congr (by simp) a
@[simp] theorem stored_setReg8 (s : State) (r : Reg8) (v : Byte) (a : Word) :
    (s.setReg8 r v).stored a = s.stored a := stored_congr (by simp) a
@[simp] theorem stored_setReg16 (s : State) (r : Reg16) (v : Word) (a : Word) :
    (s.setReg16 r v).stored a = s.stored a := stored_congr (by simp) a
@[simp] theorem stored_setFlags (s : State) (z n h c : Option Bool) (a : Word) :
    (s.setFlags z n h c).stored a = s.stored a := rfl
@[simp] theorem stored_setPc (s : State) (w a : Word) : (s.setPc w).stored a = s.stored a := rfl
@[simp] theorem stored_owing (s : State) (k : Nat) (a : Word) : (s.owing k).stored a = s.stored a := rfl

/-! ### Regions -/

theorem region_spec (a : Word) :
    match region a with
    | .rom => a.toNat < 0x8000
    | .vram => 0x8000 ≤ a.toNat ∧ a.toNat < 0xA000
    | .cartRam => 0xA000 ≤ a.toNat ∧ a.toNat < 0xC000
    | .wram => 0xC000 ≤ a.toNat ∧ a.toNat < 0xE000
    | .echo => 0xE000 ≤ a.toNat ∧ a.toNat < 0xFE00
    | .oam => 0xFE00 ≤ a.toNat ∧ a.toNat < 0xFEA0
    | .unusable => 0xFEA0 ≤ a.toNat ∧ a.toNat < 0xFF00
    | .io => 0xFF00 ≤ a.toNat ∧ a.toNat < 0xFF80
    | .hram => 0xFF80 ≤ a.toNat ∧ a.toNat < 0xFFFF
    | .ie => a.toNat = 0xFFFF := by
  have := a.isLt
  simp only [region]
  split_ifs <;> simp only [] <;> omega

/-- The cell of an address (R223). -/
theorem cellOf_eq (a : Word) : cellOf a = if region a = .echo then a.toNat - 0x2000 else a.toNat := by
  unfold cellOf
  cases region a <;> simp only [reduceCtorEq, if_true, if_false]

theorem isStorage_iff (n : Nat) :
    isStorage n = true ↔ n < 0xA000 ∨ (0xC000 ≤ n ∧ n < 0xE000) ∨ (0xFE00 ≤ n ∧ n < 0xFEA0) ∨
      (0xFF80 ≤ n ∧ n < 0xFFFF) := by
  unfold isStorage
  rw [Bool.or_eq_true, Bool.or_eq_true, Bool.or_eq_true, Bool.and_eq_true, Bool.and_eq_true, Bool.and_eq_true]
  iterate 7 rw [decide_eq_true_iff]
  rw [or_assoc, or_assoc]

/-- A cell that is kept in the memory list is storage of the CORE. -/
theorem isStorage_cellOf (a : Word)
    (h : region a = .wram ∨ region a = .echo ∨ region a = .hram ∨ region a = .vram ∨ region a = .oam) :
    isStorage (cellOf a) = true := by
  have hr := region_spec a
  rw [isStorage_iff, cellOf_eq]
  rcases h with h | h | h | h | h <;> rw [h] at hr ⊢
  · have : 0xC000 ≤ a.toNat ∧ a.toNat < 0xE000 := hr
    rw [if_neg (by decide)]; omega
  · have : 0xE000 ≤ a.toNat ∧ a.toNat < 0xFE00 := hr
    rw [if_pos rfl]; omega
  · have : 0xFF80 ≤ a.toNat ∧ a.toNat < 0xFFFF := hr
    rw [if_neg (by decide)]; omega
  · have : 0x8000 ≤ a.toNat ∧ a.toNat < 0xA000 := hr
    rw [if_neg (by decide)]; omega
  · have : 0xFE00 ≤ a.toNat ∧ a.toNat < 0xFEA0 := hr
    rw [if_neg (by decide)]; omega

/-- Addresses with the cell of a ROM address are that address. -/
theorem cellOf_rom {a b : Word} (h : region a = .rom) (hb : region b ≠ .rom) : cellOf b ≠ cellOf a := by
  have ha := region_spec a
  have hb' := region_spec b
  rw [cellOf_eq, cellOf_eq, h]
  rw [h] at ha
  cases hr : region b <;> rw [hr] at hb' <;> simp_all <;> omega

/-! ### Writes -/

/-- The memory list after a write: unchanged, one store in the cell of the address, or OAM forgotten. -/
theorem afterWrite_mem (s : State) (a : Word) (v : Byte) :
    (s.afterWrite a v).mem =
      if isRam a ∨ ((region a = .vram ∨ region a = .oam) ∧ Config.drawLocked s.draws = false) then
        Memory.store s.mem (cellOf a) v
      else if a = 0xFF46#16 then Memory.forgetOam s.mem
      else s.mem := by
  by_cases hdma : a = 0xFF46#16
  · subst hdma
    have h1 : region 0xFF46#16 = .io := by decide
    simp [State.afterWrite, isRam, h1]
  · cases hr : region a <;> simp [State.afterWrite, isRam, hr, hdma]
    all_goals (cases Config.drawLocked s.draws <;> simp)

/-- A write leaves every byte of another cell alone, but OAM where it goes to 0xFF46. -/
theorem stored_afterWrite_ne (s : State) (b a : Word) (v : Byte) (h : cellOf b ≠ cellOf a)
    (ho : b = 0xFF46#16 → region a ≠ .oam) : (s.afterWrite b v).stored a = s.stored a := by
  rw [State.stored, afterWrite_mem]
  split
  · rw [Memory.lookup_store, if_neg (Ne.symm h)]; rfl
  · split
    · rename_i hb
      rw [Memory.lookup_forgetOam]
      · rfl
      · have hr := region_spec a
        rw [cellOf_eq]
        have := ho hb
        cases hc : region a <;> rw [hc] at hr <;> simp_all <;> omega
    · rfl

/-- In plain RAM a write is what a lookup of any address of the same cell then gives. -/
theorem stored_afterWrite_eq (s : State) (b a : Word) (v : Byte) (hr : isRam b = true)
    (h : cellOf b = cellOf a) : (s.afterWrite b v).stored a = some v := by
  rw [State.stored, afterWrite_mem, if_pos (.inl hr), Memory.lookup_store, if_pos h.symm]

theorem afterWrite_memoryInv {s : State} (h : s.MemoryInv) (a : Word) (v : Byte) :
    (s.afterWrite a v).MemoryInv := by
  rw [State.MemoryInv, afterWrite_mem]
  split
  · rename_i hc
    refine ⟨Memory.store_wf h.1 _ _, fun x hx => ?_⟩
    rcases Memory.mem_store hx with rfl | hx
    · apply isStorage_cellOf
      rcases hc with hc | hc
      · unfold isRam at hc; cases hr : region a <;> simp_all
      · rcases hc.1 with h | h <;> simp [h]
    · exact h.2 x hx
  · split
    · exact ⟨Memory.forgetOam_wf h.1, fun x hx => h.2 x (List.mem_of_mem_filter hx)⟩
    · exact h

/-- Reading plain RAM that holds a byte gives it and changes nothing. -/
theorem read_ram {s : State} {a : Word} {v : Byte} (hr : isRam a = true) (h : s.stored a = some v) :
    s.readVal a = v ∧ s.afterRead a = s := by
  unfold isRam at hr
  cases hc : region a <;> simp_all [State.readVal, State.afterRead]

/-- A fetch from plain storage gives the stored byte and changes nothing. -/
theorem read_plain {s : State} {a : Word} {v : Byte} (h : s.PlainByte a v) :
    s.readVal a = v ∧ s.afterRead a = s := by
  obtain ⟨hf, h⟩ := h
  unfold fetchable at hf
  cases hc : region a <;> simp_all [State.readVal, State.afterRead]

theorem isRam_ne_dma {a : Word} (h : isRam a = true) : a ≠ 0xFF46#16 := by
  rintro rfl; revert h; decide

end Sys2Proof.Machine
end

