-- ==== Sys2Proof/Laws/Rules.lean ====
section
/-! SUPPORT. What each shared rule can do, once: under which conditions it answers a next state, and
which state that is. -/
namespace Sys2Proof.Machine

open Sys2Proof

/-! ### Loads -/

theorem load8_next {src : Src8} {tgt : Tgt8} {cost : Nat} {s t : State} :
    load8 src tgt cost s = .next t ↔
      s.Holds (srcNames src) ∧ s.AdmitsOpt (srcAddr src s) ∧ s.Holds (tgtNames tgt) ∧
        s.AdmitsOpt (tgtAddr tgt s) ∧
        t = ((s.afterSrc src).afterTgt tgt (s.srcVal src)).owing (cost - 1) := by
  simp only [load8, Result.andThen_next, resolveSource8_next, resolveTarget8_next, charge_next]
  constructor
  · rintro ⟨_, ⟨h1, h2, rfl⟩, _, ⟨h3, rfl⟩, _, h4, rfl⟩
    rw [writeHandle8_next] at h4
    simp only [holds_afterSrc, admitsOpt_afterSrc, tgtAddr_afterSrc] at h3 h4
    exact ⟨h1, h2, h3, h4.1, by rw [h4.2]⟩
  · rintro ⟨h1, h2, h3, h4, rfl⟩
    refine ⟨_, ⟨h1, h2, rfl⟩, _, ⟨?_, rfl⟩, _, writeHandle8_next.2 ⟨?_, rfl⟩, rfl⟩ <;> simpa

/-- The state after a load that steps HL (R507 to R510). -/
theorem load8Step_next {src : Src8} {tgt : Tgt8} {delta : Word} {cost : Nat} {s t : State} :
    load8Step src tgt delta cost s = .next t ↔
      s.Holds (srcNames src) ∧ s.AdmitsOpt (srcAddr src s) ∧ s.Holds (tgtNames tgt) ∧
        s.AdmitsOpt (tgtAddr tgt s) ∧
        ((s.afterSrc src).afterTgt tgt (s.srcVal src)).Holds [.h, .l] ∧
        t = (((s.afterSrc src).afterTgt tgt (s.srcVal src)).setReg16 .hl
          (((s.afterSrc src).afterTgt tgt (s.srcVal src)).reg16 .hl + delta)).owing (cost - 1) := by
  simp only [load8Step, Result.andThen_next, resolveSource8_next, resolveTarget8_next, charge_next,
    readReg16_next]
  constructor
  · rintro ⟨_, ⟨h1, h2, rfl⟩, _, ⟨h3, rfl⟩, _, h4, _, ⟨h5, rfl⟩, rfl⟩
    rw [writeHandle8_next] at h4
    simp only [holds_afterSrc, admitsOpt_afterSrc, tgtAddr_afterSrc] at h3 h4
    obtain ⟨h4, rfl⟩ := h4
    exact ⟨h1, h2, h3, h4, h5, rfl⟩
  · rintro ⟨h1, h2, h3, h4, h5, rfl⟩
    refine ⟨_, ⟨h1, h2, rfl⟩, _, ⟨?_, rfl⟩, _, writeHandle8_next.2 ⟨?_, rfl⟩, _, ⟨h5, rfl⟩, rfl⟩ <;> simpa

theorem load16_imm_next {n : Word} {rr : Reg16} {cost : Nat} {s t : State} :
    load16 (.imm16 n) (.reg rr) cost s = .next t ↔ t = (s.setReg16 rr n).owing (cost - 1) := by
  simp [load16, resolveSource16, resolveTarget16, writeHandle16, charge_next]

theorem load16_reg_next {rr tt : Reg16} {cost : Nat} {s t : State} :
    load16 (.reg rr) (.reg tt) cost s = .next t ↔
      s.Holds (reg16Names rr) ∧ t = (s.setReg16 tt (s.reg16 rr)).owing (cost - 1) := by
  simp only [load16, Result.andThen_next, resolveSource16_next, resolveTarget16, writeHandle16, charge_next]
  constructor
  · rintro ⟨_, ⟨h, rfl⟩, _, h2, rfl⟩; cases h2; exact ⟨h, rfl⟩
  · rintro ⟨h, rfl⟩; exact ⟨_, ⟨h, rfl⟩, _, rfl, rfl⟩

theorem load16_store_next {rr : Reg16} {a : Word} {cost : Nat} {s t : State} :
    load16 (.reg rr) (.ind16 a) cost s = .next t ↔
      s.Holds (reg16Names rr) ∧ s.Store16Ready a ∧
        t = ((s.afterWrite a (loByte (s.reg16 rr))).afterWrite (a + 1) (hiByte (s.reg16 rr))).owing
          (cost - 1) := by
  simp only [load16, Result.andThen_next, resolveSource16_next, resolveTarget16, writeHandle16, charge_next,
    busWrite16_next]
  constructor
  · rintro ⟨_, ⟨h, rfl⟩, _, ⟨h2, rfl⟩, rfl⟩; exact ⟨h, h2, rfl⟩
  · rintro ⟨h, h2, rfl⟩; exact ⟨_, ⟨h, rfl⟩, _, ⟨h2, rfl⟩, rfl⟩

theorem loadHLSP_next {e : Byte} {cost : Nat} {s t : State} :
    loadHLSP e cost s = .next t ↔ s.Holds [.sp] ∧
      t = ((s.setReg16 .hl (spAdd s.sp e).1).setFlags (some false) (some false) (some (spAdd s.sp e).2.1)
        (some (spAdd s.sp e).2.2)).owing (cost - 1) := by
  simp only [loadHLSP, Result.andThen_next, readReg16_next, charge_next]
  constructor
  · rintro ⟨_, ⟨h, rfl⟩, rfl⟩; exact ⟨h, rfl⟩
  · rintro ⟨h, rfl⟩; exact ⟨_, ⟨h, rfl⟩, rfl⟩

theorem push_next {rr : Reg16} {cost : Nat} {s t : State} :
    push rr cost s = .next t ↔
      s.Holds (reg16Names rr) ∧ s.PushReady ∧ t = (s.afterPush (s.reg16 rr)).owing (cost - 1) := by
  simp only [push, Result.andThen_next, readReg16_next, push16_next, charge_next]
  constructor
  · rintro ⟨_, ⟨h, rfl⟩, _, ⟨h1, rfl⟩, rfl⟩; exact ⟨h, h1, rfl⟩
  · rintro ⟨h, h1, rfl⟩; exact ⟨_, ⟨h, rfl⟩, _, ⟨h1, rfl⟩, rfl⟩

theorem pop_next {rr : Reg16} {cost : Nat} {s t : State} :
    pop rr cost s = .next t ↔ s.PopReady ∧ t = (s.afterPop.setReg16 rr s.popVal).owing (cost - 1) := by
  simp only [pop, Result.andThen_next, pop16_next, charge_next]
  constructor
  · rintro ⟨_, ⟨h, rfl⟩, rfl⟩; exact ⟨h, rfl⟩
  · rintro ⟨h, rfl⟩; exact ⟨_, ⟨h, rfl⟩, rfl⟩

/-! ### 8-bit arithmetic -/

theorem alu8_next {op : AluOp} {src : Src8} {cost : Nat} {s t : State} :
    alu8 op src cost s = .next t ↔
      s.Holds (srcNames src) ∧ s.AdmitsOpt (srcAddr src s) ∧ s.Holds [.a] ∧
        (usesCarry op = true → s.Holds [.fc]) ∧
        t = ((writeAluResult op (aluFn op s.a (s.srcVal src) (usesCarry op && s.flags.c)).res
            (s.afterSrc src)).setFlags
          (some (aluFn op s.a (s.srcVal src) (usesCarry op && s.flags.c)).z)
          (some (aluFn op s.a (s.srcVal src) (usesCarry op && s.flags.c)).n)
          (some (aluFn op s.a (s.srcVal src) (usesCarry op && s.flags.c)).h)
          (some (aluFn op s.a (s.srcVal src) (usesCarry op && s.flags.c)).c)).owing (cost - 1) := by
  simp only [alu8, Result.andThen_next, resolveSource8_next, readReg8_next, carryIn_next, charge_next]
  constructor
  · rintro ⟨_, ⟨h1, h2, rfl⟩, _, ⟨h3, rfl⟩, _, ⟨h4, rfl⟩, rfl⟩
    simp only [holds_afterSrc] at h3 h4
    refine ⟨h1, h2, h3, h4, ?_⟩
    simp only [State.afterSrc_flags, State.afterSrc_reg8]
    rfl
  · rintro ⟨h1, h2, h3, h4, rfl⟩
    refine ⟨_, ⟨h1, h2, rfl⟩, _, ⟨(holds_afterSrc s src _).2 h3, rfl⟩, _,
      ⟨fun h => (holds_afterSrc s src _).2 (h4 h), rfl⟩, ?_⟩
    simp only [State.afterSrc_flags, State.afterSrc_reg8]
    rfl

theorem unary8_next {fn : Byte → AluOut} {src : Src8} {tgt : Tgt8} {cost : Nat} {s t : State} :
    unary8 fn src tgt cost s = .next t ↔
      s.Holds (srcNames src) ∧ s.AdmitsOpt (srcAddr src s) ∧ s.Holds (tgtNames tgt) ∧
        s.AdmitsOpt (tgtAddr tgt s) ∧
        t = (((s.afterSrc src).afterTgt tgt (fn (s.srcVal src)).res).setFlags
          (some (fn (s.srcVal src)).z) (some (fn (s.srcVal src)).n) (some (fn (s.srcVal src)).h) none).owing
          (cost - 1) := by
  simp only [unary8, Result.andThen_next, resolveSource8_next, resolveTarget8_next, charge_next]
  constructor
  · rintro ⟨_, ⟨h1, h2, rfl⟩, _, ⟨h3, rfl⟩, _, h4, rfl⟩
    rw [writeHandle8_next] at h4
    simp only [holds_afterSrc, admitsOpt_afterSrc, tgtAddr_afterSrc] at h3 h4
    exact ⟨h1, h2, h3, h4.1, by rw [h4.2]⟩
  · rintro ⟨h1, h2, h3, h4, rfl⟩
    refine ⟨_, ⟨h1, h2, rfl⟩, _, ⟨?_, rfl⟩, _, writeHandle8_next.2 ⟨?_, rfl⟩, rfl⟩ <;> simpa

theorem decimalAdjust_next {cost : Nat} {s t : State} :
    decimalAdjust cost s = .next t ↔
      s.Holds [.a, .fc, .fn, .fh] ∧
        t = ((s.setReg8 .a (daaFn s.a s.flags.n s.flags.h s.flags.c).1).setFlags
          (some (decide ((daaFn s.a s.flags.n s.flags.h s.flags.c).1 = 0))) none (some false)
          (some (daaFn s.a s.flags.n s.flags.h s.flags.c).2)).owing (cost - 1) := by
  simp only [decimalAdjust, Result.andThen_next, readReg8_next, readC_next, readN, readH, checked_next,
    charge_next]
  constructor
  · rintro ⟨_, ⟨h1, rfl⟩, _, ⟨h2, rfl⟩, _, ⟨h3, rfl⟩, _, ⟨h4, rfl⟩, rfl⟩
    refine ⟨?_, rfl⟩
    simp_all [State.Holds, regName]
  · rintro ⟨h, rfl⟩
    simp only [State.Holds, List.mem_cons, List.not_mem_nil, or_false, forall_eq_or_imp, forall_eq] at h
    refine ⟨_, ⟨?_, rfl⟩, _, ⟨?_, rfl⟩, _, ⟨?_, rfl⟩, _, ⟨?_, rfl⟩, rfl⟩ <;> simp_all [State.Holds, regName]

theorem complementA_next {cost : Nat} {s t : State} :
    complementA cost s = .next t ↔
      s.Holds [.a] ∧ t = ((s.setReg8 .a (s.a ^^^ 0xFF#8)).setFlags none (some true) (some true) none).owing
        (cost - 1) := by
  simp only [complementA, Result.andThen_next, readReg8_next, charge_next]
  constructor
  · rintro ⟨_, ⟨h, rfl⟩, rfl⟩; exact ⟨h, rfl⟩
  · rintro ⟨h, rfl⟩; exact ⟨_, ⟨h, rfl⟩, rfl⟩

theorem complementCarry_next {cost : Nat} {s t : State} :
    complementCarry cost s = .next t ↔
      s.Holds [.fc] ∧ t = (s.setFlags none (some false) (some false) (some (!s.flags.c))).owing (cost - 1) := by
  simp only [complementCarry, Result.andThen_next, readC_next, charge_next]
  constructor
  · rintro ⟨_, ⟨h, rfl⟩, rfl⟩; exact ⟨h, rfl⟩
  · rintro ⟨h, rfl⟩; exact ⟨_, ⟨h, rfl⟩, rfl⟩

/-! ### 16-bit arithmetic -/

theorem addHL_next {rr : Reg16} {cost : Nat} {s t : State} :
    addHL rr cost s = .next t ↔
      s.Holds (reg16Names rr) ∧ s.Holds [.h, .l] ∧
        t = ((s.setReg16 .hl (add16 (s.reg16 .hl) (s.reg16 rr)).1).setFlags none (some false)
          (some (add16 (s.reg16 .hl) (s.reg16 rr)).2.1) (some (add16 (s.reg16 .hl) (s.reg16 rr)).2.2)).owing
          (cost - 1) := by
  simp only [addHL, Result.andThen_next, readReg16_next, charge_next]
  constructor
  · rintro ⟨_, ⟨h, rfl⟩, _, ⟨h1, rfl⟩, rfl⟩; exact ⟨h, h1, rfl⟩
  · rintro ⟨h, h1, rfl⟩; exact ⟨_, ⟨h, rfl⟩, _, ⟨h1, rfl⟩, rfl⟩

theorem add16To_next {rr : Reg16} {delta : Word} {cost : Nat} {s t : State} :
    add16To rr delta cost s = .next t ↔
      s.Holds (reg16Names rr) ∧ t = (s.setReg16 rr (s.reg16 rr + delta)).owing (cost - 1) := by
  simp only [add16To, Result.andThen_next, readReg16_next, charge_next]
  constructor
  · rintro ⟨_, ⟨h, rfl⟩, rfl⟩; exact ⟨h, rfl⟩
  · rintro ⟨h, rfl⟩; exact ⟨_, ⟨h, rfl⟩, rfl⟩

theorem addSP_next {e : Byte} {cost : Nat} {s t : State} :
    addSP e cost s = .next t ↔ s.Holds [.sp] ∧
      t = ((s.setReg16 .sp (spAdd s.sp e).1).setFlags (some false) (some false) (some (spAdd s.sp e).2.1)
        (some (spAdd s.sp e).2.2)).owing (cost - 1) := by
  simp only [addSP, Result.andThen_next, readReg16_next, charge_next]
  constructor
  · rintro ⟨_, ⟨h, rfl⟩, rfl⟩; exact ⟨h, rfl⟩
  · rintro ⟨h, rfl⟩; exact ⟨_, ⟨h, rfl⟩, rfl⟩

/-! ### Rotates, shifts and bits -/

theorem rotA_next {op : RotOp} {cost : Nat} {s t : State} :
    rotA op cost s = .next t ↔
      s.Holds [.a] ∧ (rotUsesCarry op = true → s.Holds [.fc]) ∧
        t = ((s.setReg8 .a (rotFn op s.a (rotUsesCarry op && s.flags.c)).1).setFlags (some false) (some false)
          (some false) (some (rotFn op s.a (rotUsesCarry op && s.flags.c)).2)).owing (cost - 1) := by
  simp only [rotA, Result.andThen_next, readReg8_next, carryIn_next, charge_next]
  constructor
  · rintro ⟨_, ⟨h, rfl⟩, _, ⟨h1, rfl⟩, rfl⟩; exact ⟨h, h1, rfl⟩
  · rintro ⟨h, h1, rfl⟩; exact ⟨_, ⟨h, rfl⟩, _, ⟨h1, rfl⟩, rfl⟩

theorem rot8_next {op : RotOp} {src : Src8} {tgt : Tgt8} {cost : Nat} {s t : State} :
    rot8 op src tgt cost s = .next t ↔
      s.Holds (srcNames src) ∧ s.AdmitsOpt (srcAddr src s) ∧ s.Holds (tgtNames tgt) ∧
        (rotUsesCarry op = true → s.Holds [.fc]) ∧ s.AdmitsOpt (tgtAddr tgt s) ∧
        t = (((s.afterSrc src).afterTgt tgt (rotFn op (s.srcVal src) (rotUsesCarry op && s.flags.c)).1).setFlags
          (some (decide ((rotFn op (s.srcVal src) (rotUsesCarry op && s.flags.c)).1 = 0))) (some false)
          (some false) (some (rotFn op (s.srcVal src) (rotUsesCarry op && s.flags.c)).2)).owing (cost - 1) := by
  simp only [rot8, Result.andThen_next, resolveSource8_next, resolveTarget8_next, carryIn_next, charge_next]
  constructor
  · rintro ⟨_, ⟨h1, h2, rfl⟩, _, ⟨h3, rfl⟩, _, ⟨h4, rfl⟩, _, h5, rfl⟩
    rw [writeHandle8_next] at h5
    simp only [holds_afterSrc, admitsOpt_afterSrc, tgtAddr_afterSrc] at h3 h4 h5
    refine ⟨h1, h2, h3, h4, h5.1, ?_⟩
    rw [h5.2]
    simp only [State.afterSrc_flags]
  · rintro ⟨h1, h2, h3, h4, h5, rfl⟩
    refine ⟨_, ⟨h1, h2, rfl⟩, _, ⟨(holds_afterSrc s src _).2 h3, rfl⟩, _,
      ⟨fun h => (holds_afterSrc s src _).2 (h4 h), rfl⟩, _, writeHandle8_next.2 ⟨?_, rfl⟩, ?_⟩
    · simpa using h5
    · simp only [State.afterSrc_flags]

theorem bitTest_next {b : Fin 8} {src : Src8} {cost : Nat} {s t : State} :
    bitTest b src cost s = .next t ↔
      s.Holds (srcNames src) ∧ s.AdmitsOpt (srcAddr src s) ∧
        t = ((s.afterSrc src).setFlags (some (!(s.srcVal src).getLsbD b.val)) (some false) (some true)
          none).owing (cost - 1) := by
  simp only [bitTest, Result.andThen_next, resolveSource8_next, charge_next]
  constructor
  · rintro ⟨_, ⟨h1, h2, rfl⟩, rfl⟩; exact ⟨h1, h2, rfl⟩
  · rintro ⟨h1, h2, rfl⟩; exact ⟨_, ⟨h1, h2, rfl⟩, rfl⟩

theorem bitReset_next {b : Fin 8} {src : Src8} {tgt : Tgt8} {cost : Nat} {s t : State} :
    bitReset b src tgt cost s = .next t ↔
      s.Holds (srcNames src) ∧ s.AdmitsOpt (srcAddr src s) ∧ s.Holds (tgtNames tgt) ∧
        s.AdmitsOpt (tgtAddr tgt s) ∧
        t = ((s.afterSrc src).afterTgt tgt (s.srcVal src &&& ~~~bitMask b)).owing (cost - 1) := by
  simp only [bitReset, Result.andThen_next, resolveSource8_next, resolveTarget8_next, charge_next]
  constructor
  · rintro ⟨_, ⟨h1, h2, rfl⟩, _, ⟨h3, rfl⟩, _, h4, rfl⟩
    rw [writeHandle8_next] at h4
    simp only [holds_afterSrc, admitsOpt_afterSrc, tgtAddr_afterSrc] at h3 h4
    exact ⟨h1, h2, h3, h4.1, by rw [h4.2]⟩
  · rintro ⟨h1, h2, h3, h4, rfl⟩
    refine ⟨_, ⟨h1, h2, rfl⟩, _, ⟨?_, rfl⟩, _, writeHandle8_next.2 ⟨?_, rfl⟩, rfl⟩ <;> simpa

theorem bitSet_next {b : Fin 8} {src : Src8} {tgt : Tgt8} {cost : Nat} {s t : State} :
    bitSet b src tgt cost s = .next t ↔
      s.Holds (srcNames src) ∧ s.AdmitsOpt (srcAddr src s) ∧ s.Holds (tgtNames tgt) ∧
        s.AdmitsOpt (tgtAddr tgt s) ∧
        t = ((s.afterSrc src).afterTgt tgt (s.srcVal src ||| bitMask b)).owing (cost - 1) := by
  simp only [bitSet, Result.andThen_next, resolveSource8_next, resolveTarget8_next, charge_next]
  constructor
  · rintro ⟨_, ⟨h1, h2, rfl⟩, _, ⟨h3, rfl⟩, _, h4, rfl⟩
    rw [writeHandle8_next] at h4
    simp only [holds_afterSrc, admitsOpt_afterSrc, tgtAddr_afterSrc] at h3 h4
    exact ⟨h1, h2, h3, h4.1, by rw [h4.2]⟩
  · rintro ⟨h1, h2, h3, h4, rfl⟩
    refine ⟨_, ⟨h1, h2, rfl⟩, _, ⟨?_, rfl⟩, _, writeHandle8_next.2 ⟨?_, rfl⟩, rfl⟩ <;> simpa

/-! ### Control transfer -/

theorem jump_imm_next {n : Word} {cost : Nat} {s t : State} :
    jump (.imm16 n) cost s = .next t ↔ t = (s.setPc n).owing (cost - 1) := by
  simp [jump, resolveSource16, charge_next]

theorem jump_reg_next {rr : Reg16} {cost : Nat} {s t : State} :
    jump (.reg rr) cost s = .next t ↔
      s.Holds (reg16Names rr) ∧ t = (s.setPc (s.reg16 rr)).owing (cost - 1) := by
  simp only [jump, Result.andThen_next, resolveSource16_next, charge_next]
  constructor
  · rintro ⟨_, ⟨h, rfl⟩, rfl⟩; exact ⟨h, rfl⟩
  · rintro ⟨h, rfl⟩; exact ⟨_, ⟨h, rfl⟩, rfl⟩

theorem jumpIf_next {cc : Cond} {n : Word} {c d : Nat} {s t : State} :
    jumpIf cc n c d s = .next t ↔ s.Holds (condNames cc) ∧
      t = if condOf cc s.flags then (s.setPc n).owing (c - 1) else s.owing (d - 1) := by
  simp only [jumpIf, Result.andThen_next, condHolds_next]
  constructor
  · rintro ⟨_, ⟨h, rfl⟩, ht⟩
    refine ⟨h, ?_⟩
    split at ht <;> rename_i hc <;> simp only [hc, if_true, Bool.false_eq_true, if_false] <;>
      exact charge_next.1 ht
  · rintro ⟨h, rfl⟩
    refine ⟨_, ⟨h, rfl⟩, ?_⟩
    split <;> rfl

theorem jumpRel_next {e : Byte} {cost : Nat} {s t : State} :
    jumpRel e cost s = .next t ↔ t = (s.setPc (s.pc + sext16 e)).owing (cost - 1) := charge_next

theorem jumpRelIf_next {cc : Cond} {e : Byte} {c d : Nat} {s t : State} :
    jumpRelIf cc e c d s = .next t ↔ s.Holds (condNames cc) ∧
      t = if condOf cc s.flags then (s.setPc (s.pc + sext16 e)).owing (c - 1) else s.owing (d - 1) := by
  simp only [jumpRelIf, Result.andThen_next, condHolds_next]
  constructor
  · rintro ⟨_, ⟨h, rfl⟩, ht⟩
    refine ⟨h, ?_⟩
    split at ht <;> rename_i hc <;> simp only [hc, if_true, Bool.false_eq_true, if_false] <;>
      exact charge_next.1 ht
  · rintro ⟨h, rfl⟩
    refine ⟨_, ⟨h, rfl⟩, ?_⟩
    split <;> rfl

theorem call_next {n : Word} {cost : Nat} {s t : State} :
    call n cost s = .next t ↔ s.PushReady ∧ t = ((s.afterPush s.pc).setPc n).owing (cost - 1) := by
  simp only [call, Result.andThen_next, push16_next, charge_next]
  constructor
  · rintro ⟨_, ⟨h, rfl⟩, rfl⟩; exact ⟨h, rfl⟩
  · rintro ⟨h, rfl⟩; exact ⟨_, ⟨h, rfl⟩, rfl⟩

theorem callIf_next {cc : Cond} {n : Word} {c d : Nat} {s t : State} :
    callIf cc n c d s = .next t ↔ s.Holds (condNames cc) ∧
      if condOf cc s.flags then s.PushReady ∧ t = ((s.afterPush s.pc).setPc n).owing (c - 1)
      else t = s.owing (d - 1) := by
  simp only [callIf, Result.andThen_next, condHolds_next]
  constructor
  · rintro ⟨_, ⟨h, rfl⟩, ht⟩
    refine ⟨h, ?_⟩
    split at ht <;> rename_i hc <;> simp only [hc, if_true, Bool.false_eq_true, if_false]
    · exact call_next.1 ht
    · exact charge_next.1 ht
  · rintro ⟨h, ht⟩
    refine ⟨_, ⟨h, rfl⟩, ?_⟩
    split at ht <;> rename_i hc <;> simp only [hc, if_true, Bool.false_eq_true, if_false]
    · exact call_next.2 ht
    · exact charge_next.2 ht

theorem ret_next {cost : Nat} {s t : State} :
    ret cost s = .next t ↔ s.PopReady ∧ t = (s.afterPop.setPc s.popVal).owing (cost - 1) := by
  simp only [ret, Result.andThen_next, returnToCaller_next, charge_next]
  constructor
  · rintro ⟨_, ⟨h, rfl⟩, rfl⟩; exact ⟨h, rfl⟩
  · rintro ⟨h, rfl⟩; exact ⟨_, ⟨h, rfl⟩, rfl⟩

theorem retIf_next {cc : Cond} {c d : Nat} {s t : State} :
    retIf cc c d s = .next t ↔ s.Holds (condNames cc) ∧
      if condOf cc s.flags then s.PopReady ∧ t = (s.afterPop.setPc s.popVal).owing (c - 1)
      else t = s.owing (d - 1) := by
  simp only [retIf, Result.andThen_next, condHolds_next]
  constructor
  · rintro ⟨_, ⟨h, rfl⟩, ht⟩
    refine ⟨h, ?_⟩
    split at ht <;> rename_i hc <;> simp only [hc, if_true, Bool.false_eq_true, if_false]
    · exact ret_next.1 ht
    · exact charge_next.1 ht
  · rintro ⟨h, ht⟩
    refine ⟨_, ⟨h, rfl⟩, ?_⟩
    split at ht <;> rename_i hc <;> simp only [hc, if_true, Bool.false_eq_true, if_false]
    · exact ret_next.2 ht
    · exact charge_next.2 ht

theorem retInterrupt_next {cost : Nat} {s t : State} :
    retInterrupt cost s = .next t ↔
      s.PopReady ∧ t = ({ s.afterPop.setPc s.popVal with ime := true } : State).owing (cost - 1) := by
  simp only [retInterrupt, Result.andThen_next, returnToCaller_next, charge_next]
  constructor
  · rintro ⟨_, ⟨h, rfl⟩, rfl⟩; exact ⟨h, rfl⟩
  · rintro ⟨h, rfl⟩; exact ⟨_, ⟨h, rfl⟩, rfl⟩

theorem restart_next {y : Fin 8} {cost : Nat} {s t : State} :
    restart y cost s = .next t ↔
      s.PushReady ∧ t = ((s.afterPush s.pc).setPc (restartTarget y)).owing (cost - 1) := by
  simp only [restart, Result.andThen_next, push16_next, charge_next]
  constructor
  · rintro ⟨_, ⟨h, rfl⟩, rfl⟩; exact ⟨h, rfl⟩
  · rintro ⟨h, rfl⟩; exact ⟨_, ⟨h, rfl⟩, rfl⟩

/-! ### System -/

theorem halt_next {cost : Nat} {s t : State} :
    halt cost s = .next t ↔
      (s.ime = true ∨ s.irq = none) ∧ t = ({ s with halted := true } : State).owing (cost - 1) := by
  unfold halt
  split
  · rename_i h
    simp only [Bool.and_eq_true, Bool.not_eq_true', Option.isSome_iff_ne_none] at h
    simp only [reduceCtorEq, false_iff, not_and]
    rintro (h1 | h1)
    · simp [h.1] at h1
    · exact absurd h1 h.2
  · rename_i h
    rw [charge_next]
    simp only [Bool.and_eq_true, Bool.not_eq_true', Option.isSome_iff_ne_none, not_and, ne_eq,
      not_not] at h
    constructor
    · rintro rfl
      refine ⟨?_, rfl⟩
      cases hi : s.ime
      · exact .inr (h hi)
      · exact .inl rfl
    · exact fun h => h.2

end Sys2Proof.Machine
end

