-- ==== Sys2Proof/Laws/Forms.lean ====
section
/-! SUPPORT. The forms: what each runs, and that they and the single instructions are all there is. A
claim about every instruction is one case a form. -/
namespace Sys2Proof.Machine

open Sys2Proof

theorem exec_ldRegReg (dst : Reg8) (r : Reg8) (s : State) :
    exec (ldRegReg dst r) s = load8 (.reg r) (.reg dst) 1 s := by
  cases dst <;> cases r <;> rfl

theorem exec_ldRegN8 (dst : Reg8) (n8 : Byte) (s : State) :
    exec (ldRegN8 dst n8) s = load8 (.imm8 n8) (.reg dst) 2 s := by
  cases dst <;> rfl

theorem exec_ldRegMem (dst : Reg8) (s : State) :
    exec (ldRegMem dst) s = load8 (.ind .hl) (.reg dst) 2 s := by
  cases dst <;> rfl

theorem exec_ldMemReg (r : Reg8) (s : State) :
    exec (ldMemReg r) s = load8 (.reg r) (.ind .hl) 2 s := by
  cases r <;> rfl

theorem exec_aluReg (op : AluOp) (r : Reg8) (s : State) :
    exec (aluReg op r) s = alu8 op (.reg r) 1 s := by
  cases op <;> cases r <;> rfl

theorem exec_aluMem (op : AluOp) (s : State) :
    exec (aluMem op) s = alu8 op (.ind .hl) 2 s := by
  cases op <;> rfl

theorem exec_aluN8 (op : AluOp) (n8 : Byte) (s : State) :
    exec (aluN8 op n8) s = alu8 op (.imm8 n8) 2 s := by
  cases op <;> rfl

theorem exec_incReg (dst : Reg8) (s : State) :
    exec (incReg dst) s = unary8 inc8 (.reg dst) (.reg dst) 1 s := by
  cases dst <;> rfl

theorem exec_decReg (dst : Reg8) (s : State) :
    exec (decReg dst) s = unary8 dec8 (.reg dst) (.reg dst) 1 s := by
  cases dst <;> rfl

theorem exec_ldPairN16 (p : RP) (n16 : Word) (s : State) :
    exec (ldPairN16 p n16) s = load16 (.imm16 n16) (.reg p.reg16) 3 s := by
  cases p <;> rfl

theorem exec_addHLPair (p : RP) (s : State) :
    exec (addHLPair p) s = addHL p.reg16 2 s := by
  cases p <;> rfl

theorem exec_incPair (p : RP) (s : State) :
    exec (incPair p) s = add16To p.reg16 1 2 s := by
  cases p <;> rfl

theorem exec_decPair (p : RP) (s : State) :
    exec (decPair p) s = add16To p.reg16 (-1) 2 s := by
  cases p <;> rfl

theorem exec_pushPair (q : RP2) (s : State) :
    exec (pushPair q) s = push q.reg16 4 s := by
  cases q <;> rfl

theorem exec_popPair (q : RP2) (s : State) :
    exec (popPair q) s = pop q.reg16 3 s := by
  cases q <;> rfl

theorem exec_jpIf (cc : Cond) (n16 : Word) (s : State) :
    exec (jpIf cc n16) s = jumpIf cc n16 4 3 s := by
  cases cc <;> rfl

theorem exec_jrIf (cc : Cond) (n8 : Byte) (s : State) :
    exec (jrIf cc n8) s = jumpRelIf cc n8 3 2 s := by
  cases cc <;> rfl

theorem exec_callCond (cc : Cond) (n16 : Word) (s : State) :
    exec (callCond cc n16) s = callIf cc n16 6 3 s := by
  cases cc <;> rfl

theorem exec_retCond (cc : Cond) (s : State) :
    exec (retCond cc) s = retIf cc 5 2 s := by
  cases cc <;> rfl

theorem exec_rstTo (b : Fin 8) (s : State) :
    exec (rstTo b) s = restart b 4 s := by
  fin_cases b <;> rfl

theorem exec_rotReg (ro : RotOp) (r : Reg8) (s : State) :
    exec (rotReg ro r) s = rot8 ro (.reg r) (.reg r) 2 s := by
  cases ro <;> cases r <;> rfl

theorem exec_rotMem (ro : RotOp) (s : State) :
    exec (rotMem ro) s = rot8 ro (.ind .hl) (.ind .hl) 4 s := by
  cases ro <;> rfl

theorem exec_bitReg (b : Fin 8) (r : Reg8) (s : State) :
    exec (bitReg b r) s = bitTest b (.reg r) 2 s := by
  fin_cases b <;> cases r <;> rfl

theorem exec_bitMem (b : Fin 8) (s : State) :
    exec (bitMem b) s = bitTest b (.ind .hl) 3 s := by
  fin_cases b <;> rfl

theorem exec_resReg (b : Fin 8) (r : Reg8) (s : State) :
    exec (resReg b r) s = bitReset b (.reg r) (.reg r) 2 s := by
  fin_cases b <;> cases r <;> rfl

theorem exec_resMem (b : Fin 8) (s : State) :
    exec (resMem b) s = bitReset b (.ind .hl) (.ind .hl) 4 s := by
  fin_cases b <;> rfl

theorem exec_setReg (b : Fin 8) (r : Reg8) (s : State) :
    exec (setReg b r) s = bitSet b (.reg r) (.reg r) 2 s := by
  fin_cases b <;> cases r <;> rfl

theorem exec_setMem (b : Fin 8) (s : State) :
    exec (setMem b) s = bitSet b (.ind .hl) (.ind .hl) 4 s := by
  fin_cases b <;> rfl

theorem exec_nop (s : State) : exec .nop s = charge 1 s := rfl
theorem exec_ldMemBCA (s : State) : exec .ldMemBCA s = load8 (.reg .a) (.ind .bc) 2 s := rfl
theorem exec_rlca (s : State) : exec .rlca s = rotA .rlc 1 s := rfl
theorem exec_ldMemA16SP (n : Word) (s : State) : exec (.ldMemA16SP n) s =
    load16 (.reg .sp) (.ind16 n) 5 s := rfl
theorem exec_ldAMemBC (s : State) : exec .ldAMemBC s = load8 (.ind .bc) (.reg .a) 2 s := rfl
theorem exec_rrca (s : State) : exec .rrca s = rotA .rrc 1 s := rfl
theorem exec_stop (s : State) : exec .stop s = stop s := rfl
theorem exec_ldMemDEA (s : State) : exec .ldMemDEA s = load8 (.reg .a) (.ind .de) 2 s := rfl
theorem exec_rla (s : State) : exec .rla s = rotA .rl 1 s := rfl
theorem exec_jrE8 (e : Byte) (s : State) : exec (.jrE8 e) s = jumpRel e 3 s := rfl
theorem exec_ldAMemDE (s : State) : exec .ldAMemDE s = load8 (.ind .de) (.reg .a) 2 s := rfl
theorem exec_rra (s : State) : exec .rra s = rotA .rr 1 s := rfl
theorem exec_ldMemHLIncA (s : State) : exec .ldMemHLIncA s = load8Step (.reg .a) (.ind .hl) 1 2 s := rfl
theorem exec_daa (s : State) : exec .daa s = decimalAdjust 1 s := rfl
theorem exec_ldAMemHLInc (s : State) : exec .ldAMemHLInc s = load8Step (.ind .hl) (.reg .a) 1 2 s := rfl
theorem exec_cpl (s : State) : exec .cpl s = complementA 1 s := rfl
theorem exec_ldMemHLDecA (s : State) : exec .ldMemHLDecA s = load8Step (.reg .a) (.ind .hl) (-1) 2 s := rfl
theorem exec_incMemHL (s : State) : exec .incMemHL s = unary8 inc8 (.ind .hl) (.ind .hl) 3 s := rfl
theorem exec_decMemHL (s : State) : exec .decMemHL s = unary8 dec8 (.ind .hl) (.ind .hl) 3 s := rfl
theorem exec_ldMemHLN8 (n : Byte) (s : State) : exec (.ldMemHLN8 n) s = load8 (.imm8 n) (.ind .hl) 3 s := rfl
theorem exec_scf (s : State) : exec .scf s = setCarry 1 s := rfl
theorem exec_ldAMemHLDec (s : State) : exec .ldAMemHLDec s = load8Step (.ind .hl) (.reg .a) (-1) 2 s := rfl
theorem exec_ccf (s : State) : exec .ccf s = complementCarry 1 s := rfl
theorem exec_halt (s : State) : exec .halt s = halt 1 s := rfl
theorem exec_jpA16 (n : Word) (s : State) : exec (.jpA16 n) s = jump (.imm16 n) 4 s := rfl
theorem exec_ret (s : State) : exec .ret s = ret 4 s := rfl
theorem exec_prefixCB (op2 : Byte) (s : State) : exec (.prefixCB op2) s = runExtended op2 s := rfl
theorem exec_callA16 (n : Word) (s : State) : exec (.callA16 n) s = call n 6 s := rfl
theorem exec_unassigned (opcode : Byte) (s : State) : exec (.unassigned opcode) s =
    decodeFailure opcode s := rfl
theorem exec_reti (s : State) : exec .reti s = retInterrupt 4 s := rfl
theorem exec_ldhMemA8A (n : Byte) (s : State) : exec (.ldhMemA8A n) s = load8 (.reg .a) (.indhi8 n) 3 s := rfl
theorem exec_ldMemCA (s : State) : exec .ldMemCA s = load8 (.reg .a) .indhiC 2 s := rfl
theorem exec_addSPE8 (e : Byte) (s : State) : exec (.addSPE8 e) s = addSP e 4 s := rfl
theorem exec_jpHL (s : State) : exec .jpHL s = jump (.reg .hl) 1 s := rfl
theorem exec_ldMemA16A (n : Word) (s : State) : exec (.ldMemA16A n) s = load8 (.reg .a) (.ind16 n) 4 s := rfl
theorem exec_ldhAMemA8 (n : Byte) (s : State) : exec (.ldhAMemA8 n) s = load8 (.indhi8 n) (.reg .a) 3 s := rfl
theorem exec_ldAMemC (s : State) : exec .ldAMemC s = load8 .indhiC (.reg .a) 2 s := rfl
theorem exec_di (s : State) : exec .di s = disableInterrupts 1 s := rfl
theorem exec_ldHLSPE8 (e : Byte) (s : State) : exec (.ldHLSPE8 e) s = loadHLSP e 3 s := rfl
theorem exec_ldSPHL (s : State) : exec .ldSPHL s = load16 (.reg .hl) (.reg .sp) 2 s := rfl
theorem exec_ldAMemA16 (n : Word) (s : State) : exec (.ldAMemA16 n) s = load8 (.ind16 n) (.reg .a) 4 s := rfl
theorem exec_ei (s : State) : exec .ei s = enableInterrupts 1 s := rfl

/-- Every instruction is a form or one of the single instructions. -/
theorem instr_forms {P : Instr → Prop}
    (h_ldRegReg : ∀ (dst : Reg8) (r : Reg8), P (ldRegReg dst r))
    (h_ldRegN8 : ∀ (dst : Reg8) (n8 : Byte), P (ldRegN8 dst n8))
    (h_ldRegMem : ∀ (dst : Reg8), P (ldRegMem dst))
    (h_ldMemReg : ∀ (r : Reg8), P (ldMemReg r))
    (h_aluReg : ∀ (op : AluOp) (r : Reg8), P (aluReg op r))
    (h_aluMem : ∀ (op : AluOp), P (aluMem op))
    (h_aluN8 : ∀ (op : AluOp) (n8 : Byte), P (aluN8 op n8))
    (h_incReg : ∀ (dst : Reg8), P (incReg dst))
    (h_decReg : ∀ (dst : Reg8), P (decReg dst))
    (h_ldPairN16 : ∀ (p : RP) (n16 : Word), P (ldPairN16 p n16))
    (h_addHLPair : ∀ (p : RP), P (addHLPair p))
    (h_incPair : ∀ (p : RP), P (incPair p))
    (h_decPair : ∀ (p : RP), P (decPair p))
    (h_pushPair : ∀ (q : RP2), P (pushPair q))
    (h_popPair : ∀ (q : RP2), P (popPair q))
    (h_jpIf : ∀ (cc : Cond) (n16 : Word), P (jpIf cc n16))
    (h_jrIf : ∀ (cc : Cond) (n8 : Byte), P (jrIf cc n8))
    (h_callCond : ∀ (cc : Cond) (n16 : Word), P (callCond cc n16))
    (h_retCond : ∀ (cc : Cond), P (retCond cc))
    (h_rstTo : ∀ (b : Fin 8), P (rstTo b))
    (h_rotReg : ∀ (ro : RotOp) (r : Reg8), P (rotReg ro r))
    (h_rotMem : ∀ (ro : RotOp), P (rotMem ro))
    (h_bitReg : ∀ (b : Fin 8) (r : Reg8), P (bitReg b r))
    (h_bitMem : ∀ (b : Fin 8), P (bitMem b))
    (h_resReg : ∀ (b : Fin 8) (r : Reg8), P (resReg b r))
    (h_resMem : ∀ (b : Fin 8), P (resMem b))
    (h_setReg : ∀ (b : Fin 8) (r : Reg8), P (setReg b r))
    (h_setMem : ∀ (b : Fin 8), P (setMem b))
    (h_nop : P .nop)
    (h_ldMemBCA : P .ldMemBCA)
    (h_rlca : P .rlca)
    (h_ldMemA16SP : ∀ n : Word, P (.ldMemA16SP n))
    (h_ldAMemBC : P .ldAMemBC)
    (h_rrca : P .rrca)
    (h_stop : P .stop)
    (h_ldMemDEA : P .ldMemDEA)
    (h_rla : P .rla)
    (h_jrE8 : ∀ e : Byte, P (.jrE8 e))
    (h_ldAMemDE : P .ldAMemDE)
    (h_rra : P .rra)
    (h_ldMemHLIncA : P .ldMemHLIncA)
    (h_daa : P .daa)
    (h_ldAMemHLInc : P .ldAMemHLInc)
    (h_cpl : P .cpl)
    (h_ldMemHLDecA : P .ldMemHLDecA)
    (h_incMemHL : P .incMemHL)
    (h_decMemHL : P .decMemHL)
    (h_ldMemHLN8 : ∀ n : Byte, P (.ldMemHLN8 n))
    (h_scf : P .scf)
    (h_ldAMemHLDec : P .ldAMemHLDec)
    (h_ccf : P .ccf)
    (h_halt : P .halt)
    (h_jpA16 : ∀ n : Word, P (.jpA16 n))
    (h_ret : P .ret)
    (h_prefixCB : ∀ op2 : Byte, P (.prefixCB op2))
    (h_callA16 : ∀ n : Word, P (.callA16 n))
    (h_unassigned : ∀ opcode : Byte, P (.unassigned opcode))
    (h_reti : P .reti)
    (h_ldhMemA8A : ∀ n : Byte, P (.ldhMemA8A n))
    (h_ldMemCA : P .ldMemCA)
    (h_addSPE8 : ∀ e : Byte, P (.addSPE8 e))
    (h_jpHL : P .jpHL)
    (h_ldMemA16A : ∀ n : Word, P (.ldMemA16A n))
    (h_ldhAMemA8 : ∀ n : Byte, P (.ldhAMemA8 n))
    (h_ldAMemC : P .ldAMemC)
    (h_di : P .di)
    (h_ldHLSPE8 : ∀ e : Byte, P (.ldHLSPE8 e))
    (h_ldSPHL : P .ldSPHL)
    (h_ldAMemA16 : ∀ n : Word, P (.ldAMemA16 n))
    (h_ei : P .ei)
    : ∀ i, P i := by
  intro i
  cases i with
  | nop => exact h_nop
  | ldBCN16 n => exact h_ldPairN16 .bc n
  | ldMemBCA => exact h_ldMemBCA
  | incBC => exact h_incPair .bc
  | incB => exact h_incReg .b
  | decB => exact h_decReg .b
  | ldBN8 n => exact h_ldRegN8 .b n
  | rlca => exact h_rlca
  | ldMemA16SP n => exact h_ldMemA16SP n
  | addHLBC => exact h_addHLPair .bc
  | ldAMemBC => exact h_ldAMemBC
  | decBC => exact h_decPair .bc
  | incC => exact h_incReg .c
  | decC => exact h_decReg .c
  | ldCN8 n => exact h_ldRegN8 .c n
  | rrca => exact h_rrca
  | stop => exact h_stop
  | ldDEN16 n => exact h_ldPairN16 .de n
  | ldMemDEA => exact h_ldMemDEA
  | incDE => exact h_incPair .de
  | incD => exact h_incReg .d
  | decD => exact h_decReg .d
  | ldDN8 n => exact h_ldRegN8 .d n
  | rla => exact h_rla
  | jrE8 e => exact h_jrE8 e
  | addHLDE => exact h_addHLPair .de
  | ldAMemDE => exact h_ldAMemDE
  | decDE => exact h_decPair .de
  | incE => exact h_incReg .e
  | decE => exact h_decReg .e
  | ldEN8 n => exact h_ldRegN8 .e n
  | rra => exact h_rra
  | jrNZE8 e => exact h_jrIf .nz e
  | ldHLN16 n => exact h_ldPairN16 .hl n
  | ldMemHLIncA => exact h_ldMemHLIncA
  | incHL => exact h_incPair .hl
  | incH => exact h_incReg .h
  | decH => exact h_decReg .h
  | ldHN8 n => exact h_ldRegN8 .h n
  | daa => exact h_daa
  | jrZE8 e => exact h_jrIf .z e
  | addHLHL => exact h_addHLPair .hl
  | ldAMemHLInc => exact h_ldAMemHLInc
  | decHL => exact h_decPair .hl
  | incL => exact h_incReg .l
  | decL => exact h_decReg .l
  | ldLN8 n => exact h_ldRegN8 .l n
  | cpl => exact h_cpl
  | jrNCE8 e => exact h_jrIf .nc e
  | ldSPN16 n => exact h_ldPairN16 .sp n
  | ldMemHLDecA => exact h_ldMemHLDecA
  | incSP => exact h_incPair .sp
  | incMemHL => exact h_incMemHL
  | decMemHL => exact h_decMemHL
  | ldMemHLN8 n => exact h_ldMemHLN8 n
  | scf => exact h_scf
  | jrCE8 e => exact h_jrIf .c e
  | addHLSP => exact h_addHLPair .sp
  | ldAMemHLDec => exact h_ldAMemHLDec
  | decSP => exact h_decPair .sp
  | incA => exact h_incReg .a
  | decA => exact h_decReg .a
  | ldAN8 n => exact h_ldRegN8 .a n
  | ccf => exact h_ccf
  | ldBB => exact h_ldRegReg .b .b
  | ldBC => exact h_ldRegReg .b .c
  | ldBD => exact h_ldRegReg .b .d
  | ldBE => exact h_ldRegReg .b .e
  | ldBH => exact h_ldRegReg .b .h
  | ldBL => exact h_ldRegReg .b .l
  | ldBMemHL => exact h_ldRegMem .b
  | ldBA => exact h_ldRegReg .b .a
  | ldCB => exact h_ldRegReg .c .b
  | ldCC => exact h_ldRegReg .c .c
  | ldCD => exact h_ldRegReg .c .d
  | ldCE => exact h_ldRegReg .c .e
  | ldCH => exact h_ldRegReg .c .h
  | ldCL => exact h_ldRegReg .c .l
  | ldCMemHL => exact h_ldRegMem .c
  | ldCA => exact h_ldRegReg .c .a
  | ldDB => exact h_ldRegReg .d .b
  | ldDC => exact h_ldRegReg .d .c
  | ldDD => exact h_ldRegReg .d .d
  | ldDE => exact h_ldRegReg .d .e
  | ldDH => exact h_ldRegReg .d .h
  | ldDL => exact h_ldRegReg .d .l
  | ldDMemHL => exact h_ldRegMem .d
  | ldDA => exact h_ldRegReg .d .a
  | ldEB => exact h_ldRegReg .e .b
  | ldEC => exact h_ldRegReg .e .c
  | ldED => exact h_ldRegReg .e .d
  | ldEE => exact h_ldRegReg .e .e
  | ldEH => exact h_ldRegReg .e .h
  | ldEL => exact h_ldRegReg .e .l
  | ldEMemHL => exact h_ldRegMem .e
  | ldEA => exact h_ldRegReg .e .a
  | ldHB => exact h_ldRegReg .h .b
  | ldHC => exact h_ldRegReg .h .c
  | ldHD => exact h_ldRegReg .h .d
  | ldHE => exact h_ldRegReg .h .e
  | ldHH => exact h_ldRegReg .h .h
  | ldHL => exact h_ldRegReg .h .l
  | ldHMemHL => exact h_ldRegMem .h
  | ldHA => exact h_ldRegReg .h .a
  | ldLB => exact h_ldRegReg .l .b
  | ldLC => exact h_ldRegReg .l .c
  | ldLD => exact h_ldRegReg .l .d
  | ldLE => exact h_ldRegReg .l .e
  | ldLH => exact h_ldRegReg .l .h
  | ldLL => exact h_ldRegReg .l .l
  | ldLMemHL => exact h_ldRegMem .l
  | ldLA => exact h_ldRegReg .l .a
  | ldMemHLB => exact h_ldMemReg .b
  | ldMemHLC => exact h_ldMemReg .c
  | ldMemHLD => exact h_ldMemReg .d
  | ldMemHLE => exact h_ldMemReg .e
  | ldMemHLH => exact h_ldMemReg .h
  | ldMemHLL => exact h_ldMemReg .l
  | halt => exact h_halt
  | ldMemHLA => exact h_ldMemReg .a
  | ldAB => exact h_ldRegReg .a .b
  | ldAC => exact h_ldRegReg .a .c
  | ldAD => exact h_ldRegReg .a .d
  | ldAE => exact h_ldRegReg .a .e
  | ldAH => exact h_ldRegReg .a .h
  | ldAL => exact h_ldRegReg .a .l
  | ldAMemHL => exact h_ldRegMem .a
  | ldAA => exact h_ldRegReg .a .a
  | addAB => exact h_aluReg .add .b
  | addAC => exact h_aluReg .add .c
  | addAD => exact h_aluReg .add .d
  | addAE => exact h_aluReg .add .e
  | addAH => exact h_aluReg .add .h
  | addAL => exact h_aluReg .add .l
  | addAMemHL => exact h_aluMem .add
  | addAA => exact h_aluReg .add .a
  | adcAB => exact h_aluReg .adc .b
  | adcAC => exact h_aluReg .adc .c
  | adcAD => exact h_aluReg .adc .d
  | adcAE => exact h_aluReg .adc .e
  | adcAH => exact h_aluReg .adc .h
  | adcAL => exact h_aluReg .adc .l
  | adcAMemHL => exact h_aluMem .adc
  | adcAA => exact h_aluReg .adc .a
  | subB => exact h_aluReg .sub .b
  | subC => exact h_aluReg .sub .c
  | subD => exact h_aluReg .sub .d
  | subE => exact h_aluReg .sub .e
  | subH => exact h_aluReg .sub .h
  | subL => exact h_aluReg .sub .l
  | subMemHL => exact h_aluMem .sub
  | subA => exact h_aluReg .sub .a
  | sbcAB => exact h_aluReg .sbc .b
  | sbcAC => exact h_aluReg .sbc .c
  | sbcAD => exact h_aluReg .sbc .d
  | sbcAE => exact h_aluReg .sbc .e
  | sbcAH => exact h_aluReg .sbc .h
  | sbcAL => exact h_aluReg .sbc .l
  | sbcAMemHL => exact h_aluMem .sbc
  | sbcAA => exact h_aluReg .sbc .a
  | andB => exact h_aluReg .and .b
  | andC => exact h_aluReg .and .c
  | andD => exact h_aluReg .and .d
  | andE => exact h_aluReg .and .e
  | andH => exact h_aluReg .and .h
  | andL => exact h_aluReg .and .l
  | andMemHL => exact h_aluMem .and
  | andA => exact h_aluReg .and .a
  | xorB => exact h_aluReg .xor .b
  | xorC => exact h_aluReg .xor .c
  | xorD => exact h_aluReg .xor .d
  | xorE => exact h_aluReg .xor .e
  | xorH => exact h_aluReg .xor .h
  | xorL => exact h_aluReg .xor .l
  | xorMemHL => exact h_aluMem .xor
  | xorA => exact h_aluReg .xor .a
  | orB => exact h_aluReg .or .b
  | orC => exact h_aluReg .or .c
  | orD => exact h_aluReg .or .d
  | orE => exact h_aluReg .or .e
  | orH => exact h_aluReg .or .h
  | orL => exact h_aluReg .or .l
  | orMemHL => exact h_aluMem .or
  | orA => exact h_aluReg .or .a
  | cpB => exact h_aluReg .cp .b
  | cpC => exact h_aluReg .cp .c
  | cpD => exact h_aluReg .cp .d
  | cpE => exact h_aluReg .cp .e
  | cpH => exact h_aluReg .cp .h
  | cpL => exact h_aluReg .cp .l
  | cpMemHL => exact h_aluMem .cp
  | cpA => exact h_aluReg .cp .a
  | retNZ => exact h_retCond .nz
  | popBC => exact h_popPair .bc
  | jpNZA16 n => exact h_jpIf .nz n
  | jpA16 n => exact h_jpA16 n
  | callNZA16 n => exact h_callCond .nz n
  | pushBC => exact h_pushPair .bc
  | addAN8 n => exact h_aluN8 .add n
  | rst00 => exact h_rstTo 0
  | retZ => exact h_retCond .z
  | ret => exact h_ret
  | jpZA16 n => exact h_jpIf .z n
  | prefixCB op2 => exact h_prefixCB op2
  | callZA16 n => exact h_callCond .z n
  | callA16 n => exact h_callA16 n
  | adcAN8 n => exact h_aluN8 .adc n
  | rst08 => exact h_rstTo 1
  | retNC => exact h_retCond .nc
  | popDE => exact h_popPair .de
  | jpNCA16 n => exact h_jpIf .nc n
  | unassigned opcode => exact h_unassigned opcode
  | callNCA16 n => exact h_callCond .nc n
  | pushDE => exact h_pushPair .de
  | subN8 n => exact h_aluN8 .sub n
  | rst10 => exact h_rstTo 2
  | retC => exact h_retCond .c
  | reti => exact h_reti
  | jpCA16 n => exact h_jpIf .c n
  | callCA16 n => exact h_callCond .c n
  | sbcAN8 n => exact h_aluN8 .sbc n
  | rst18 => exact h_rstTo 3
  | ldhMemA8A n => exact h_ldhMemA8A n
  | popHL => exact h_popPair .hl
  | ldMemCA => exact h_ldMemCA
  | pushHL => exact h_pushPair .hl
  | andN8 n => exact h_aluN8 .and n
  | rst20 => exact h_rstTo 4
  | addSPE8 e => exact h_addSPE8 e
  | jpHL => exact h_jpHL
  | ldMemA16A n => exact h_ldMemA16A n
  | xorN8 n => exact h_aluN8 .xor n
  | rst28 => exact h_rstTo 5
  | ldhAMemA8 n => exact h_ldhAMemA8 n
  | popAF => exact h_popPair .af
  | ldAMemC => exact h_ldAMemC
  | di => exact h_di
  | pushAF => exact h_pushPair .af
  | orN8 n => exact h_aluN8 .or n
  | rst30 => exact h_rstTo 6
  | ldHLSPE8 e => exact h_ldHLSPE8 e
  | ldSPHL => exact h_ldSPHL
  | ldAMemA16 n => exact h_ldAMemA16 n
  | ei => exact h_ei
  | cpN8 n => exact h_aluN8 .cp n
  | rst38 => exact h_rstTo 7
  | rlcB => exact h_rotReg .rlc .b
  | rlcC => exact h_rotReg .rlc .c
  | rlcD => exact h_rotReg .rlc .d
  | rlcE => exact h_rotReg .rlc .e
  | rlcH => exact h_rotReg .rlc .h
  | rlcL => exact h_rotReg .rlc .l
  | rlcMemHL => exact h_rotMem .rlc
  | rlcA => exact h_rotReg .rlc .a
  | rrcB => exact h_rotReg .rrc .b
  | rrcC => exact h_rotReg .rrc .c
  | rrcD => exact h_rotReg .rrc .d
  | rrcE => exact h_rotReg .rrc .e
  | rrcH => exact h_rotReg .rrc .h
  | rrcL => exact h_rotReg .rrc .l
  | rrcMemHL => exact h_rotMem .rrc
  | rrcA => exact h_rotReg .rrc .a
  | rlB => exact h_rotReg .rl .b
  | rlC => exact h_rotReg .rl .c
  | rlD => exact h_rotReg .rl .d
  | rlE => exact h_rotReg .rl .e
  | rlH => exact h_rotReg .rl .h
  | rlL => exact h_rotReg .rl .l
  | rlMemHL => exact h_rotMem .rl
  | rlA => exact h_rotReg .rl .a
  | rrB => exact h_rotReg .rr .b
  | rrC => exact h_rotReg .rr .c
  | rrD => exact h_rotReg .rr .d
  | rrE => exact h_rotReg .rr .e
  | rrH => exact h_rotReg .rr .h
  | rrL => exact h_rotReg .rr .l
  | rrMemHL => exact h_rotMem .rr
  | rrA => exact h_rotReg .rr .a
  | slaB => exact h_rotReg .sla .b
  | slaC => exact h_rotReg .sla .c
  | slaD => exact h_rotReg .sla .d
  | slaE => exact h_rotReg .sla .e
  | slaH => exact h_rotReg .sla .h
  | slaL => exact h_rotReg .sla .l
  | slaMemHL => exact h_rotMem .sla
  | slaA => exact h_rotReg .sla .a
  | sraB => exact h_rotReg .sra .b
  | sraC => exact h_rotReg .sra .c
  | sraD => exact h_rotReg .sra .d
  | sraE => exact h_rotReg .sra .e
  | sraH => exact h_rotReg .sra .h
  | sraL => exact h_rotReg .sra .l
  | sraMemHL => exact h_rotMem .sra
  | sraA => exact h_rotReg .sra .a
  | swapB => exact h_rotReg .swap .b
  | swapC => exact h_rotReg .swap .c
  | swapD => exact h_rotReg .swap .d
  | swapE => exact h_rotReg .swap .e
  | swapH => exact h_rotReg .swap .h
  | swapL => exact h_rotReg .swap .l
  | swapMemHL => exact h_rotMem .swap
  | swapA => exact h_rotReg .swap .a
  | srlB => exact h_rotReg .srl .b
  | srlC => exact h_rotReg .srl .c
  | srlD => exact h_rotReg .srl .d
  | srlE => exact h_rotReg .srl .e
  | srlH => exact h_rotReg .srl .h
  | srlL => exact h_rotReg .srl .l
  | srlMemHL => exact h_rotMem .srl
  | srlA => exact h_rotReg .srl .a
  | bit0B => exact h_bitReg 0 .b
  | bit0C => exact h_bitReg 0 .c
  | bit0D => exact h_bitReg 0 .d
  | bit0E => exact h_bitReg 0 .e
  | bit0H => exact h_bitReg 0 .h
  | bit0L => exact h_bitReg 0 .l
  | bit0MemHL => exact h_bitMem 0
  | bit0A => exact h_bitReg 0 .a
  | bit1B => exact h_bitReg 1 .b
  | bit1C => exact h_bitReg 1 .c
  | bit1D => exact h_bitReg 1 .d
  | bit1E => exact h_bitReg 1 .e
  | bit1H => exact h_bitReg 1 .h
  | bit1L => exact h_bitReg 1 .l
  | bit1MemHL => exact h_bitMem 1
  | bit1A => exact h_bitReg 1 .a
  | bit2B => exact h_bitReg 2 .b
  | bit2C => exact h_bitReg 2 .c
  | bit2D => exact h_bitReg 2 .d
  | bit2E => exact h_bitReg 2 .e
  | bit2H => exact h_bitReg 2 .h
  | bit2L => exact h_bitReg 2 .l
  | bit2MemHL => exact h_bitMem 2
  | bit2A => exact h_bitReg 2 .a
  | bit3B => exact h_bitReg 3 .b
  | bit3C => exact h_bitReg 3 .c
  | bit3D => exact h_bitReg 3 .d
  | bit3E => exact h_bitReg 3 .e
  | bit3H => exact h_bitReg 3 .h
  | bit3L => exact h_bitReg 3 .l
  | bit3MemHL => exact h_bitMem 3
  | bit3A => exact h_bitReg 3 .a
  | bit4B => exact h_bitReg 4 .b
  | bit4C => exact h_bitReg 4 .c
  | bit4D => exact h_bitReg 4 .d
  | bit4E => exact h_bitReg 4 .e
  | bit4H => exact h_bitReg 4 .h
  | bit4L => exact h_bitReg 4 .l
  | bit4MemHL => exact h_bitMem 4
  | bit4A => exact h_bitReg 4 .a
  | bit5B => exact h_bitReg 5 .b
  | bit5C => exact h_bitReg 5 .c
  | bit5D => exact h_bitReg 5 .d
  | bit5E => exact h_bitReg 5 .e
  | bit5H => exact h_bitReg 5 .h
  | bit5L => exact h_bitReg 5 .l
  | bit5MemHL => exact h_bitMem 5
  | bit5A => exact h_bitReg 5 .a
  | bit6B => exact h_bitReg 6 .b
  | bit6C => exact h_bitReg 6 .c
  | bit6D => exact h_bitReg 6 .d
  | bit6E => exact h_bitReg 6 .e
  | bit6H => exact h_bitReg 6 .h
  | bit6L => exact h_bitReg 6 .l
  | bit6MemHL => exact h_bitMem 6
  | bit6A => exact h_bitReg 6 .a
  | bit7B => exact h_bitReg 7 .b
  | bit7C => exact h_bitReg 7 .c
  | bit7D => exact h_bitReg 7 .d
  | bit7E => exact h_bitReg 7 .e
  | bit7H => exact h_bitReg 7 .h
  | bit7L => exact h_bitReg 7 .l
  | bit7MemHL => exact h_bitMem 7
  | bit7A => exact h_bitReg 7 .a
  | res0B => exact h_resReg 0 .b
  | res0C => exact h_resReg 0 .c
  | res0D => exact h_resReg 0 .d
  | res0E => exact h_resReg 0 .e
  | res0H => exact h_resReg 0 .h
  | res0L => exact h_resReg 0 .l
  | res0MemHL => exact h_resMem 0
  | res0A => exact h_resReg 0 .a
  | res1B => exact h_resReg 1 .b
  | res1C => exact h_resReg 1 .c
  | res1D => exact h_resReg 1 .d
  | res1E => exact h_resReg 1 .e
  | res1H => exact h_resReg 1 .h
  | res1L => exact h_resReg 1 .l
  | res1MemHL => exact h_resMem 1
  | res1A => exact h_resReg 1 .a
  | res2B => exact h_resReg 2 .b
  | res2C => exact h_resReg 2 .c
  | res2D => exact h_resReg 2 .d
  | res2E => exact h_resReg 2 .e
  | res2H => exact h_resReg 2 .h
  | res2L => exact h_resReg 2 .l
  | res2MemHL => exact h_resMem 2
  | res2A => exact h_resReg 2 .a
  | res3B => exact h_resReg 3 .b
  | res3C => exact h_resReg 3 .c
  | res3D => exact h_resReg 3 .d
  | res3E => exact h_resReg 3 .e
  | res3H => exact h_resReg 3 .h
  | res3L => exact h_resReg 3 .l
  | res3MemHL => exact h_resMem 3
  | res3A => exact h_resReg 3 .a
  | res4B => exact h_resReg 4 .b
  | res4C => exact h_resReg 4 .c
  | res4D => exact h_resReg 4 .d
  | res4E => exact h_resReg 4 .e
  | res4H => exact h_resReg 4 .h
  | res4L => exact h_resReg 4 .l
  | res4MemHL => exact h_resMem 4
  | res4A => exact h_resReg 4 .a
  | res5B => exact h_resReg 5 .b
  | res5C => exact h_resReg 5 .c
  | res5D => exact h_resReg 5 .d
  | res5E => exact h_resReg 5 .e
  | res5H => exact h_resReg 5 .h
  | res5L => exact h_resReg 5 .l
  | res5MemHL => exact h_resMem 5
  | res5A => exact h_resReg 5 .a
  | res6B => exact h_resReg 6 .b
  | res6C => exact h_resReg 6 .c
  | res6D => exact h_resReg 6 .d
  | res6E => exact h_resReg 6 .e
  | res6H => exact h_resReg 6 .h
  | res6L => exact h_resReg 6 .l
  | res6MemHL => exact h_resMem 6
  | res6A => exact h_resReg 6 .a
  | res7B => exact h_resReg 7 .b
  | res7C => exact h_resReg 7 .c
  | res7D => exact h_resReg 7 .d
  | res7E => exact h_resReg 7 .e
  | res7H => exact h_resReg 7 .h
  | res7L => exact h_resReg 7 .l
  | res7MemHL => exact h_resMem 7
  | res7A => exact h_resReg 7 .a
  | set0B => exact h_setReg 0 .b
  | set0C => exact h_setReg 0 .c
  | set0D => exact h_setReg 0 .d
  | set0E => exact h_setReg 0 .e
  | set0H => exact h_setReg 0 .h
  | set0L => exact h_setReg 0 .l
  | set0MemHL => exact h_setMem 0
  | set0A => exact h_setReg 0 .a
  | set1B => exact h_setReg 1 .b
  | set1C => exact h_setReg 1 .c
  | set1D => exact h_setReg 1 .d
  | set1E => exact h_setReg 1 .e
  | set1H => exact h_setReg 1 .h
  | set1L => exact h_setReg 1 .l
  | set1MemHL => exact h_setMem 1
  | set1A => exact h_setReg 1 .a
  | set2B => exact h_setReg 2 .b
  | set2C => exact h_setReg 2 .c
  | set2D => exact h_setReg 2 .d
  | set2E => exact h_setReg 2 .e
  | set2H => exact h_setReg 2 .h
  | set2L => exact h_setReg 2 .l
  | set2MemHL => exact h_setMem 2
  | set2A => exact h_setReg 2 .a
  | set3B => exact h_setReg 3 .b
  | set3C => exact h_setReg 3 .c
  | set3D => exact h_setReg 3 .d
  | set3E => exact h_setReg 3 .e
  | set3H => exact h_setReg 3 .h
  | set3L => exact h_setReg 3 .l
  | set3MemHL => exact h_setMem 3
  | set3A => exact h_setReg 3 .a
  | set4B => exact h_setReg 4 .b
  | set4C => exact h_setReg 4 .c
  | set4D => exact h_setReg 4 .d
  | set4E => exact h_setReg 4 .e
  | set4H => exact h_setReg 4 .h
  | set4L => exact h_setReg 4 .l
  | set4MemHL => exact h_setMem 4
  | set4A => exact h_setReg 4 .a
  | set5B => exact h_setReg 5 .b
  | set5C => exact h_setReg 5 .c
  | set5D => exact h_setReg 5 .d
  | set5E => exact h_setReg 5 .e
  | set5H => exact h_setReg 5 .h
  | set5L => exact h_setReg 5 .l
  | set5MemHL => exact h_setMem 5
  | set5A => exact h_setReg 5 .a
  | set6B => exact h_setReg 6 .b
  | set6C => exact h_setReg 6 .c
  | set6D => exact h_setReg 6 .d
  | set6E => exact h_setReg 6 .e
  | set6H => exact h_setReg 6 .h
  | set6L => exact h_setReg 6 .l
  | set6MemHL => exact h_setMem 6
  | set6A => exact h_setReg 6 .a
  | set7B => exact h_setReg 7 .b
  | set7C => exact h_setReg 7 .c
  | set7D => exact h_setReg 7 .d
  | set7E => exact h_setReg 7 .e
  | set7H => exact h_setReg 7 .h
  | set7L => exact h_setReg 7 .l
  | set7MemHL => exact h_setMem 7
  | set7A => exact h_setReg 7 .a

end Sys2Proof.Machine
end

