-- ==== Sys2Proof/Laws/Frame.lean ====
section
/-! SUPPORT. Two relations every update of a rule keeps, for the frames: `Quiet` (what no rule touches
or takes back) and `StoresIn` (which bytes may differ). A rule's state is a chain of updates, so each
holds of it by one lemma per update. -/
namespace Sys2Proof.Machine

open Sys2Proof

/-! ### Quiet -/

/-- From `s` to `t` the session, the tick and the interrupt answer stand still, draws and events only
grow, and no slot becomes unwritten. -/
structure Quiet (s t : State) : Prop where
  status : t.status = s.status
  tick : t.tick = s.tick
  irq : t.irq = s.irq
  draws : s.draws ≤ t.draws
  events : ∃ new, t.events = new ++ s.events
  unwritten : ∀ n ∈ t.unwritten, n ∈ s.unwritten

variable {s t u : State}

theorem Quiet.refl (s : State) : Quiet s s := ⟨rfl, rfl, rfl, le_rfl, ⟨[], rfl⟩, fun _ h => h⟩

theorem Quiet.trans (h : Quiet s t) (k : Quiet t u) : Quiet s u := by
  obtain ⟨a, ha⟩ := h.events
  obtain ⟨b, hb⟩ := k.events
  exact ⟨k.status.trans h.status, k.tick.trans h.tick, k.irq.trans h.irq, h.draws.trans k.draws,
    ⟨b ++ a, by rw [hb, ha, List.append_assoc]⟩, fun n hn => h.unwritten n (k.unwritten n hn)⟩

/-- An update that leaves those fields alone, or writes slots, is quiet. -/
theorem Quiet.of (h1 : t.status = s.status) (h2 : t.tick = s.tick) (h3 : t.irq = s.irq)
    (h4 : t.draws = s.draws) (h5 : t.events = s.events) (h6 : ∀ n ∈ t.unwritten, n ∈ s.unwritten) :
    Quiet s t := ⟨h1, h2, h3, h4.ge, ⟨[], h5⟩, h6⟩

theorem Quiet.setReg8 (h : Quiet s t) (r : Reg8) (v : Byte) : Quiet s (t.setReg8 r v) :=
  h.trans (.of (by simp) (by simp) (by simp) (by simp) (by simp) (by simp; tauto))

theorem Quiet.setReg16 (h : Quiet s t) (r : Reg16) (v : Word) : Quiet s (t.setReg16 r v) :=
  h.trans (.of (by simp) (by simp) (by simp) (by simp) (by simp) (by simp; tauto))

theorem Quiet.setFlags (h : Quiet s t) (a b c d : Option Bool) : Quiet s (t.setFlags a b c d) :=
  h.trans (.of (by simp) (by simp) (by simp) (by simp) (by simp) (by simp; tauto))

theorem Quiet.setPc (h : Quiet s t) (w : Word) : Quiet s (t.setPc w) :=
  h.trans (.of rfl rfl rfl rfl rfl fun _ h => h)

theorem Quiet.owing (h : Quiet s t) (k : Nat) : Quiet s (t.owing k) :=
  h.trans (.of rfl rfl rfl rfl rfl fun _ h => h)

/-- IME, `ime_sched` and `halted` are free to change. -/
theorem Quiet.control (h : Quiet s t) (a b c : Bool) :
    Quiet s { t with ime := a, imeSched := b, halted := c } :=
  h.trans (.of rfl rfl rfl rfl rfl fun _ h => h)

theorem Quiet.afterRead (h : Quiet s t) (a : Word) : Quiet s (t.afterRead a) := by
  refine h.trans ⟨by simp, by simp, by simp, ?_, ?_, by simp⟩
  · unfold State.afterRead; repeat' split
    all_goals simp
  · unfold State.afterRead; repeat' split
    all_goals first | exact ⟨[], rfl⟩ | exact ⟨[_], rfl⟩

theorem Quiet.afterWrite (h : Quiet s t) (a : Word) (v : Byte) : Quiet s (t.afterWrite a v) := by
  refine h.trans ⟨by simp, by simp, by simp, ?_, ?_, by simp⟩
  · unfold State.afterWrite; repeat' split
    all_goals simp
  · unfold State.afterWrite; repeat' split
    all_goals first | exact ⟨[], rfl⟩ | exact ⟨[_], rfl⟩

theorem Quiet.afterSrc (h : Quiet s t) (src : Src8) : Quiet s (t.afterSrc src) := by
  unfold State.afterSrc
  split
  · exact h
  · exact h.afterRead _

theorem Quiet.afterTgt (h : Quiet s t) (tgt : Tgt8) (v : Byte) : Quiet s (t.afterTgt tgt v) := by
  cases tgt
  · exact h.setReg8 _ _
  · exact h.afterWrite _ _
  · exact h.afterWrite _ _
  · exact h.afterWrite _ _
  · exact h.afterWrite _ _

theorem Quiet.afterPush (h : Quiet s t) (v : Word) : Quiet s (t.afterPush v) :=
  (((h.setReg16 _ _).afterWrite _ _).setReg16 _ _).afterWrite _ _

theorem Quiet.afterPop (h : Quiet s t) : Quiet s t.afterPop := by
  unfold State.afterPop
  exact ((((h.afterRead _).setReg16 _ _).afterRead _).setReg16 _ _)

theorem Quiet.writeAluResult (h : Quiet s t) (op : AluOp) (v : Byte) :
    Quiet s (writeAluResult op v t) := by
  cases op <;> first | exact h | exact h.setReg8 .a v

/-! ### StoresIn -/

/-- From `s` to `t` a byte can differ only in the cells of the addresses listed, and in OAM where 0xFF46
is one of them (log entry 14), and only then can the DMA window differ. -/
structure StoresIn (addrs : List Word) (s t : State) : Prop where
  stored : ∀ a : Word, (∀ w ∈ addrs, cellOf w ≠ cellOf a) → (0xFF46#16 ∈ addrs → region a ≠ .oam) →
    t.stored a = s.stored a
  window : 0xFF46#16 ∉ addrs → t.dmaWindow = s.dmaWindow

variable {addrs : List Word}

theorem StoresIn.refl (addrs : List Word) (s : State) : StoresIn addrs s s :=
  ⟨fun _ _ _ => rfl, fun _ => rfl⟩

theorem StoresIn.trans (h : StoresIn addrs s t) (k : StoresIn addrs t u) : StoresIn addrs s u :=
  ⟨fun a h1 h2 => (k.stored a h1 h2).trans (h.stored a h1 h2), fun h1 => (k.window h1).trans (h.window h1)⟩

/-- An update that leaves memory and the window alone. -/
theorem StoresIn.of (h1 : t.mem = s.mem) (h2 : t.dmaWindow = s.dmaWindow) : StoresIn addrs s t :=
  ⟨fun a _ _ => stored_congr h1 a, fun _ => h2⟩

theorem StoresIn.setReg8 (h : StoresIn addrs s t) (r : Reg8) (v : Byte) : StoresIn addrs s (t.setReg8 r v) :=
  h.trans (.of (by simp) (by simp))

theorem StoresIn.setReg16 (h : StoresIn addrs s t) (r : Reg16) (v : Word) :
    StoresIn addrs s (t.setReg16 r v) := h.trans (.of (by simp) (by simp))

theorem StoresIn.setFlags (h : StoresIn addrs s t) (a b c d : Option Bool) :
    StoresIn addrs s (t.setFlags a b c d) := h.trans (.of rfl rfl)

theorem StoresIn.setPc (h : StoresIn addrs s t) (w : Word) : StoresIn addrs s (t.setPc w) :=
  h.trans (.of rfl rfl)

theorem StoresIn.owing (h : StoresIn addrs s t) (k : Nat) : StoresIn addrs s (t.owing k) :=
  h.trans (.of rfl rfl)

theorem StoresIn.control (h : StoresIn addrs s t) (a b c : Bool) :
    StoresIn addrs s { t with ime := a, imeSched := b, halted := c } := h.trans (.of rfl rfl)

theorem StoresIn.afterRead (h : StoresIn addrs s t) (a : Word) : StoresIn addrs s (t.afterRead a) :=
  h.trans (.of (by simp) (by simp))

theorem StoresIn.afterSrc (h : StoresIn addrs s t) (src : Src8) : StoresIn addrs s (t.afterSrc src) :=
  h.trans (.of (by simp) (by simp))

theorem StoresIn.afterWrite (h : StoresIn addrs s t) {a : Word} (ha : a ∈ addrs) (v : Byte) :
    StoresIn addrs s (t.afterWrite a v) := by
  refine h.trans ⟨fun b h1 h2 => stored_afterWrite_ne _ _ _ _ (h1 a ha) fun e => h2 ?_, fun h1 => ?_⟩
  · rw [← e]; exact ha
  · rw [afterWrite_dmaWindow, if_neg]
    intro e
    exact h1 (by rw [← e]; exact ha)

theorem StoresIn.afterPush (h : StoresIn addrs s t) (h1 : t.sp - 1 ∈ addrs) (h2 : t.sp - 2 ∈ addrs)
    (v : Word) : StoresIn addrs s (t.afterPush v) :=
  (((h.setReg16 _ _).afterWrite h1 _).setReg16 _ _).afterWrite h2 _

theorem StoresIn.afterPop (h : StoresIn addrs s t) : StoresIn addrs s t.afterPop := by
  unfold State.afterPop
  exact ((((h.afterRead _).setReg16 _ _).afterRead _).setReg16 _ _)

theorem StoresIn.writeAluResult (h : StoresIn addrs s t) (op : AluOp) (v : Byte) :
    StoresIn addrs s (writeAluResult op v t) := by
  cases op <;> first | exact h | exact h.setReg8 .a v

end Sys2Proof.Machine
end

