-- ==== Sys2Proof/Laws/Run.lean ====
section
/-! SUPPORT. What a waking step leaves (R132, R1201); runs (R434) and the end of a run (R1340): the end state is
the state at the first boundary that is an end, and a run has at most one. -/
namespace Sys2Proof.Machine

variable {s t u : State} {endPc : Word} {n m k : Nat}

/-! ### Waking -/

@[simp] theorem haltedAtFailure_next (h : Bool) (t : State) : haltedAtFailure h (.next t) = .next t := rfl

@[simp] theorem haltedAtFailure_refused (h : Bool) (r : Refusal) :
    haltedAtFailure h (.refused r) = .refused r := rfl

@[simp] theorem haltedAtFailure_decodeFailure (h : Bool) (op : Byte) (a : Word) (u : State) :
    haltedAtFailure h (.fault (.decodeFailure op a u)) =
      .fault (.decodeFailure op a { u with halted := h }) := rfl

@[simp] theorem haltedAtFailure_uninitialisedRead (h : Bool) (r : RegName) (u : State) :
    haltedAtFailure h (.fault (.uninitialisedRead r u)) = .fault (.uninitialisedRead r u) := rfl

/-- It changes no step that goes on. -/
theorem haltedAtFailure_eq_next {h : Bool} {x : Result State} : haltedAtFailure h x = .next t ↔ x = .next t := by
  rcases x with _ | (_ | _) | _ <;> simp

/-! ### Runs -/

theorem afterTicks_zero : s.afterTicks 0 = .next s := rfl

theorem afterTicks_succ (h : step s = .next t) : s.afterTicks (n + 1) = t.afterTicks n := by
  have h' : stepCycle s = .next t := h
  simp only [State.afterTicks, h', Result.andThen]

/-- A run that goes on past a tick is a step and the rest of the run. -/
theorem afterTicks_succ_next (h : s.afterTicks (n + 1) = .next u) :
    ∃ t, step s = .next t ∧ t.afterTicks n = .next u := by
  have h' : (stepCycle s).andThen (fun t => t.afterTicks n) = .next u := h
  cases hs : stepCycle s with
  | next t => exact ⟨t, hs, by rw [hs] at h'; exact h'⟩
  | fault f => rw [hs] at h'; cases h'
  | refused r => rw [hs] at h'; cases h'

/-- An end is a boundary of a running session, so a session that has ended is at none. -/
theorem atEnd_iff : s.atEnd endPc = true ↔
    s.remaining = 0 ∧ s.status = .running ∧ s.halted = false ∧ s.pc = endPc := by
  simp [State.atEnd, and_assoc]

theorem endState_here (h : s.atEnd endPc = true) : s.endState endPc n = some s := by
  cases n <;> simp [State.endState, h]

theorem endState_next (h : s.atEnd endPc = false) (hs : step s = .next t) :
    s.endState endPc (n + 1) = t.endState endPc n := by
  have hs' : stepCycle s = .next t := hs
  simp [State.endState, h, hs']

/-- R1340: the end state is reached after some ticks, is an end, and no state before it is one. -/
theorem endState_iff : s.endState endPc n = some t ↔ ∃ k ≤ n, s.afterTicks k = .next t ∧
    t.atEnd endPc = true ∧ ∀ j < k, ∀ u, s.afterTicks j = .next u → u.atEnd endPc = false := by
  induction n generalizing s with
  | zero =>
    constructor
    · intro h
      by_cases hs : s.atEnd endPc
      · rw [endState_here hs] at h
        cases h
        exact ⟨0, le_rfl, rfl, hs, fun j hj => absurd hj (Nat.not_lt_zero j)⟩
      · simp [State.endState, hs] at h
    · rintro ⟨k, hk, ha, ht, -⟩
      obtain rfl : k = 0 := by omega
      cases ha
      exact endState_here ht
  | succ n ih =>
    by_cases hs : s.atEnd endPc
    · rw [endState_here hs]
      constructor
      · rintro ⟨⟩
        exact ⟨0, Nat.zero_le _, rfl, hs, fun j hj => absurd hj (Nat.not_lt_zero j)⟩
      · rintro ⟨k, -, ha, -, hb⟩
        cases k with
        | zero => cases ha; rfl
        | succ k => rw [hb 0 (Nat.succ_pos k) s rfl] at hs; cases hs
    · have hs' : s.atEnd endPc = false := by simpa using hs
      constructor
      · intro h
        cases hc : step s with
        | next u =>
          rw [endState_next hs' hc] at h
          obtain ⟨k, hk, ha, ht, hb⟩ := ih.1 h
          refine ⟨k + 1, by omega, by rw [afterTicks_succ hc]; exact ha, ht, fun j hj v hv => ?_⟩
          cases j with
          | zero => cases hv; exact hs'
          | succ j => rw [afterTicks_succ hc] at hv; exact hb j (by omega) v hv
        | fault f =>
          have hc' : stepCycle s = .fault f := hc
          simp [State.endState, hs', hc'] at h
        | refused r =>
          have hc' : stepCycle s = .refused r := hc
          simp [State.endState, hs', hc'] at h
      · rintro ⟨k, hk, ha, ht, hb⟩
        cases k with
        | zero => cases ha; rw [hs'] at ht; cases ht
        | succ k =>
          obtain ⟨u, hu, hr⟩ := afterTicks_succ_next ha
          rw [endState_next hs' hu]
          refine ih.2 ⟨k, by omega, hr, ht, fun j hj v hv => hb (j + 1) (by omega) v ?_⟩
          rw [afterTicks_succ hu]
          exact hv

/-- A run has at most one end state, however long it is watched. -/
theorem endState_unique (h : s.endState endPc n = some t) (h' : s.endState endPc m = some u) : t = u := by
  obtain ⟨k, -, ha, ht, hb⟩ := endState_iff.1 h
  obtain ⟨j, -, ha', hu, hb'⟩ := endState_iff.1 h'
  rcases Nat.lt_trichotomy k j with hlt | rfl | hlt
  · rw [hb' k hlt t ha] at ht; cases ht
  · rw [ha] at ha'; cases ha'; rfl
  · rw [hb j hlt u ha'] at hu; cases hu

end Sys2Proof.Machine
end

