-- ==== Sys2Proof/Laws/Shape.lean ====
section
/-! SUPPORT. What the summaries of Safety (registers and flags written, pushes, pops, jumps, addresses
stored to) are for each form. -/
namespace Sys2Proof.Machine

open Sys2Proof

theorem writtenRegs_ldRegReg (dst : Reg8) (r : Reg8) : writtenRegs (ldRegReg dst r) =
    [dst] := by cases dst <;> cases r <;> rfl
theorem flagsWritten_ldRegReg (dst : Reg8) (r : Reg8) : flagsWritten (ldRegReg dst r) =
    ⟨false, false, false, false⟩ := by cases dst <;> cases r <;> rfl
theorem pushes_ldRegReg (dst : Reg8) (r : Reg8) (f : Flags) : pushes (ldRegReg dst r) f =
    false := by cases dst <;> cases r <;> rfl
theorem pops_ldRegReg (dst : Reg8) (r : Reg8) (f : Flags) : pops (ldRegReg dst r) f =
    false := by cases dst <;> cases r <;> rfl
theorem writesPc_ldRegReg (dst : Reg8) (r : Reg8) : writesPc (ldRegReg dst r) =
    false := by cases dst <;> cases r <;> rfl
theorem storedAddrs_ldRegReg (dst : Reg8) (r : Reg8) (s : State) : storedAddrs (ldRegReg dst r) s =
    [] := by cases dst <;> cases r <;> rfl

theorem writtenRegs_ldRegN8 (dst : Reg8) (n8 : Byte) : writtenRegs (ldRegN8 dst n8) =
    [dst] := by cases dst <;> rfl
theorem flagsWritten_ldRegN8 (dst : Reg8) (n8 : Byte) : flagsWritten (ldRegN8 dst n8) =
    ⟨false, false, false, false⟩ := by cases dst <;> rfl
theorem pushes_ldRegN8 (dst : Reg8) (n8 : Byte) (f : Flags) : pushes (ldRegN8 dst n8) f =
    false := by cases dst <;> rfl
theorem pops_ldRegN8 (dst : Reg8) (n8 : Byte) (f : Flags) : pops (ldRegN8 dst n8) f =
    false := by cases dst <;> rfl
theorem writesPc_ldRegN8 (dst : Reg8) (n8 : Byte) : writesPc (ldRegN8 dst n8) = false := by cases dst <;> rfl
theorem storedAddrs_ldRegN8 (dst : Reg8) (n8 : Byte) (s : State) : storedAddrs (ldRegN8 dst n8) s =
    [] := by cases dst <;> rfl

theorem writtenRegs_ldRegMem (dst : Reg8) : writtenRegs (ldRegMem dst) = [dst] := by cases dst <;> rfl
theorem flagsWritten_ldRegMem (dst : Reg8) : flagsWritten (ldRegMem dst) =
    ⟨false, false, false, false⟩ := by cases dst <;> rfl
theorem pushes_ldRegMem (dst : Reg8) (f : Flags) : pushes (ldRegMem dst) f = false := by cases dst <;> rfl
theorem pops_ldRegMem (dst : Reg8) (f : Flags) : pops (ldRegMem dst) f = false := by cases dst <;> rfl
theorem writesPc_ldRegMem (dst : Reg8) : writesPc (ldRegMem dst) = false := by cases dst <;> rfl
theorem storedAddrs_ldRegMem (dst : Reg8) (s : State) : storedAddrs (ldRegMem dst) s =
    [] := by cases dst <;> rfl

theorem writtenRegs_ldMemReg (r : Reg8) : writtenRegs (ldMemReg r) = [] := by cases r <;> rfl
theorem flagsWritten_ldMemReg (r : Reg8) : flagsWritten (ldMemReg r) =
    ⟨false, false, false, false⟩ := by cases r <;> rfl
theorem pushes_ldMemReg (r : Reg8) (f : Flags) : pushes (ldMemReg r) f = false := by cases r <;> rfl
theorem pops_ldMemReg (r : Reg8) (f : Flags) : pops (ldMemReg r) f = false := by cases r <;> rfl
theorem writesPc_ldMemReg (r : Reg8) : writesPc (ldMemReg r) = false := by cases r <;> rfl
theorem storedAddrs_ldMemReg (r : Reg8) (s : State) : storedAddrs (ldMemReg r) s =
    [s.reg16 .hl] := by cases r <;> rfl

theorem writtenRegs_aluReg (op : AluOp) (r : Reg8) : writtenRegs (aluReg op r) =
    (if op = .cp then [] else [.a]) := by cases op <;> cases r <;> rfl
theorem flagsWritten_aluReg (op : AluOp) (r : Reg8) : flagsWritten (aluReg op r) =
    ⟨true, true, true, true⟩ := by cases op <;> cases r <;> rfl
theorem pushes_aluReg (op : AluOp) (r : Reg8) (f : Flags) : pushes (aluReg op r) f =
    false := by cases op <;> cases r <;> rfl
theorem pops_aluReg (op : AluOp) (r : Reg8) (f : Flags) : pops (aluReg op r) f =
    false := by cases op <;> cases r <;> rfl
theorem writesPc_aluReg (op : AluOp) (r : Reg8) : writesPc (aluReg op r) =
    false := by cases op <;> cases r <;> rfl
theorem storedAddrs_aluReg (op : AluOp) (r : Reg8) (s : State) : storedAddrs (aluReg op r) s =
    [] := by cases op <;> cases r <;> rfl

theorem writtenRegs_aluMem (op : AluOp) : writtenRegs (aluMem op) =
    (if op = .cp then [] else [.a]) := by cases op <;> rfl
theorem flagsWritten_aluMem (op : AluOp) : flagsWritten (aluMem op) =
    ⟨true, true, true, true⟩ := by cases op <;> rfl
theorem pushes_aluMem (op : AluOp) (f : Flags) : pushes (aluMem op) f = false := by cases op <;> rfl
theorem pops_aluMem (op : AluOp) (f : Flags) : pops (aluMem op) f = false := by cases op <;> rfl
theorem writesPc_aluMem (op : AluOp) : writesPc (aluMem op) = false := by cases op <;> rfl
theorem storedAddrs_aluMem (op : AluOp) (s : State) : storedAddrs (aluMem op) s = [] := by cases op <;> rfl

theorem writtenRegs_aluN8 (op : AluOp) (n8 : Byte) : writtenRegs (aluN8 op n8) =
    (if op = .cp then [] else [.a]) := by cases op <;> rfl
theorem flagsWritten_aluN8 (op : AluOp) (n8 : Byte) : flagsWritten (aluN8 op n8) =
    ⟨true, true, true, true⟩ := by cases op <;> rfl
theorem pushes_aluN8 (op : AluOp) (n8 : Byte) (f : Flags) : pushes (aluN8 op n8) f =
    false := by cases op <;> rfl
theorem pops_aluN8 (op : AluOp) (n8 : Byte) (f : Flags) : pops (aluN8 op n8) f = false := by cases op <;> rfl
theorem writesPc_aluN8 (op : AluOp) (n8 : Byte) : writesPc (aluN8 op n8) = false := by cases op <;> rfl
theorem storedAddrs_aluN8 (op : AluOp) (n8 : Byte) (s : State) : storedAddrs (aluN8 op n8) s =
    [] := by cases op <;> rfl

theorem writtenRegs_incReg (dst : Reg8) : writtenRegs (incReg dst) = [dst] := by cases dst <;> rfl
theorem flagsWritten_incReg (dst : Reg8) : flagsWritten (incReg dst) =
    ⟨true, true, true, false⟩ := by cases dst <;> rfl
theorem pushes_incReg (dst : Reg8) (f : Flags) : pushes (incReg dst) f = false := by cases dst <;> rfl
theorem pops_incReg (dst : Reg8) (f : Flags) : pops (incReg dst) f = false := by cases dst <;> rfl
theorem writesPc_incReg (dst : Reg8) : writesPc (incReg dst) = false := by cases dst <;> rfl
theorem storedAddrs_incReg (dst : Reg8) (s : State) : storedAddrs (incReg dst) s = [] := by cases dst <;> rfl

theorem writtenRegs_decReg (dst : Reg8) : writtenRegs (decReg dst) = [dst] := by cases dst <;> rfl
theorem flagsWritten_decReg (dst : Reg8) : flagsWritten (decReg dst) =
    ⟨true, true, true, false⟩ := by cases dst <;> rfl
theorem pushes_decReg (dst : Reg8) (f : Flags) : pushes (decReg dst) f = false := by cases dst <;> rfl
theorem pops_decReg (dst : Reg8) (f : Flags) : pops (decReg dst) f = false := by cases dst <;> rfl
theorem writesPc_decReg (dst : Reg8) : writesPc (decReg dst) = false := by cases dst <;> rfl
theorem storedAddrs_decReg (dst : Reg8) (s : State) : storedAddrs (decReg dst) s = [] := by cases dst <;> rfl

theorem writtenRegs_ldPairN16 (p : RP) (n16 : Word) : writtenRegs (ldPairN16 p n16) =
    AnyReg.parts p.any := by cases p <;> rfl
theorem flagsWritten_ldPairN16 (p : RP) (n16 : Word) : flagsWritten (ldPairN16 p n16) =
    ⟨false, false, false, false⟩ := by cases p <;> rfl
theorem pushes_ldPairN16 (p : RP) (n16 : Word) (f : Flags) : pushes (ldPairN16 p n16) f =
    false := by cases p <;> rfl
theorem pops_ldPairN16 (p : RP) (n16 : Word) (f : Flags) : pops (ldPairN16 p n16) f =
    false := by cases p <;> rfl
theorem writesPc_ldPairN16 (p : RP) (n16 : Word) : writesPc (ldPairN16 p n16) = false := by cases p <;> rfl
theorem storedAddrs_ldPairN16 (p : RP) (n16 : Word) (s : State) : storedAddrs (ldPairN16 p n16) s =
    [] := by cases p <;> rfl

theorem writtenRegs_addHLPair (p : RP) : writtenRegs (addHLPair p) = [.h, .l] := by cases p <;> rfl
theorem flagsWritten_addHLPair (p : RP) : flagsWritten (addHLPair p) =
    ⟨false, true, true, true⟩ := by cases p <;> rfl
theorem pushes_addHLPair (p : RP) (f : Flags) : pushes (addHLPair p) f = false := by cases p <;> rfl
theorem pops_addHLPair (p : RP) (f : Flags) : pops (addHLPair p) f = false := by cases p <;> rfl
theorem writesPc_addHLPair (p : RP) : writesPc (addHLPair p) = false := by cases p <;> rfl
theorem storedAddrs_addHLPair (p : RP) (s : State) : storedAddrs (addHLPair p) s = [] := by cases p <;> rfl

theorem writtenRegs_incPair (p : RP) : writtenRegs (incPair p) = AnyReg.parts p.any := by cases p <;> rfl
theorem flagsWritten_incPair (p : RP) : flagsWritten (incPair p) =
    ⟨false, false, false, false⟩ := by cases p <;> rfl
theorem pushes_incPair (p : RP) (f : Flags) : pushes (incPair p) f = false := by cases p <;> rfl
theorem pops_incPair (p : RP) (f : Flags) : pops (incPair p) f = false := by cases p <;> rfl
theorem writesPc_incPair (p : RP) : writesPc (incPair p) = false := by cases p <;> rfl
theorem storedAddrs_incPair (p : RP) (s : State) : storedAddrs (incPair p) s = [] := by cases p <;> rfl

theorem writtenRegs_decPair (p : RP) : writtenRegs (decPair p) = AnyReg.parts p.any := by cases p <;> rfl
theorem flagsWritten_decPair (p : RP) : flagsWritten (decPair p) =
    ⟨false, false, false, false⟩ := by cases p <;> rfl
theorem pushes_decPair (p : RP) (f : Flags) : pushes (decPair p) f = false := by cases p <;> rfl
theorem pops_decPair (p : RP) (f : Flags) : pops (decPair p) f = false := by cases p <;> rfl
theorem writesPc_decPair (p : RP) : writesPc (decPair p) = false := by cases p <;> rfl
theorem storedAddrs_decPair (p : RP) (s : State) : storedAddrs (decPair p) s = [] := by cases p <;> rfl

theorem writtenRegs_pushPair (q : RP2) : writtenRegs (pushPair q) = [] := by cases q <;> rfl
theorem flagsWritten_pushPair (q : RP2) : flagsWritten (pushPair q) =
    ⟨false, false, false, false⟩ := by cases q <;> rfl
theorem pushes_pushPair (q : RP2) (f : Flags) : pushes (pushPair q) f = true := by cases q <;> rfl
theorem pops_pushPair (q : RP2) (f : Flags) : pops (pushPair q) f = false := by cases q <;> rfl
theorem writesPc_pushPair (q : RP2) : writesPc (pushPair q) = false := by cases q <;> rfl
theorem storedAddrs_pushPair (q : RP2) (s : State) : storedAddrs (pushPair q) s =
    [s.sp - 1, s.sp - 2] := by cases q <;> rfl

theorem writtenRegs_popPair (q : RP2) : writtenRegs (popPair q) = AnyReg.parts q.any := by cases q <;> rfl
theorem flagsWritten_popPair (q : RP2) : flagsWritten (popPair q) =
    (if q = .af then ⟨true, true, true, true⟩ else ⟨false, false, false, false⟩) := by cases q <;> rfl
theorem pushes_popPair (q : RP2) (f : Flags) : pushes (popPair q) f = false := by cases q <;> rfl
theorem pops_popPair (q : RP2) (f : Flags) : pops (popPair q) f = true := by cases q <;> rfl
theorem writesPc_popPair (q : RP2) : writesPc (popPair q) = false := by cases q <;> rfl
theorem storedAddrs_popPair (q : RP2) (s : State) : storedAddrs (popPair q) s = [] := by cases q <;> rfl

theorem writtenRegs_jpIf (cc : Cond) (n16 : Word) : writtenRegs (jpIf cc n16) = [] := by cases cc <;> rfl
theorem flagsWritten_jpIf (cc : Cond) (n16 : Word) : flagsWritten (jpIf cc n16) =
    ⟨false, false, false, false⟩ := by cases cc <;> rfl
theorem pushes_jpIf (cc : Cond) (n16 : Word) (f : Flags) : pushes (jpIf cc n16) f = false := by cases cc <;> rfl
theorem pops_jpIf (cc : Cond) (n16 : Word) (f : Flags) : pops (jpIf cc n16) f = false := by cases cc <;> rfl
theorem writesPc_jpIf (cc : Cond) (n16 : Word) : writesPc (jpIf cc n16) = true := by cases cc <;> rfl
theorem storedAddrs_jpIf (cc : Cond) (n16 : Word) (s : State) : storedAddrs (jpIf cc n16) s =
    [] := by cases cc <;> rfl

theorem writtenRegs_jrIf (cc : Cond) (n8 : Byte) : writtenRegs (jrIf cc n8) = [] := by cases cc <;> rfl
theorem flagsWritten_jrIf (cc : Cond) (n8 : Byte) : flagsWritten (jrIf cc n8) =
    ⟨false, false, false, false⟩ := by cases cc <;> rfl
theorem pushes_jrIf (cc : Cond) (n8 : Byte) (f : Flags) : pushes (jrIf cc n8) f = false := by cases cc <;> rfl
theorem pops_jrIf (cc : Cond) (n8 : Byte) (f : Flags) : pops (jrIf cc n8) f = false := by cases cc <;> rfl
theorem writesPc_jrIf (cc : Cond) (n8 : Byte) : writesPc (jrIf cc n8) = true := by cases cc <;> rfl
theorem storedAddrs_jrIf (cc : Cond) (n8 : Byte) (s : State) : storedAddrs (jrIf cc n8) s =
    [] := by cases cc <;> rfl

theorem writtenRegs_callCond (cc : Cond) (n16 : Word) : writtenRegs (callCond cc n16) =
    [] := by cases cc <;> rfl
theorem flagsWritten_callCond (cc : Cond) (n16 : Word) : flagsWritten (callCond cc n16) =
    ⟨false, false, false, false⟩ := by cases cc <;> rfl
theorem pushes_callCond (cc : Cond) (n16 : Word) (f : Flags) : pushes (callCond cc n16) f =
    condOf cc f := by cases cc <;> rfl
theorem pops_callCond (cc : Cond) (n16 : Word) (f : Flags) : pops (callCond cc n16) f =
    false := by cases cc <;> rfl
theorem writesPc_callCond (cc : Cond) (n16 : Word) : writesPc (callCond cc n16) = true := by cases cc <;> rfl
theorem storedAddrs_callCond (cc : Cond) (n16 : Word) (s : State) : storedAddrs (callCond cc n16) s =
    if condOf cc s.flags then [s.sp - 1, s.sp - 2] else [] := by cases cc <;> rfl

theorem writtenRegs_retCond (cc : Cond) : writtenRegs (retCond cc) = [] := by cases cc <;> rfl
theorem flagsWritten_retCond (cc : Cond) : flagsWritten (retCond cc) =
    ⟨false, false, false, false⟩ := by cases cc <;> rfl
theorem pushes_retCond (cc : Cond) (f : Flags) : pushes (retCond cc) f = false := by cases cc <;> rfl
theorem pops_retCond (cc : Cond) (f : Flags) : pops (retCond cc) f = condOf cc f := by cases cc <;> rfl
theorem writesPc_retCond (cc : Cond) : writesPc (retCond cc) = true := by cases cc <;> rfl
theorem storedAddrs_retCond (cc : Cond) (s : State) : storedAddrs (retCond cc) s = [] := by cases cc <;> rfl

theorem writtenRegs_rstTo (b : Fin 8) : writtenRegs (rstTo b) = [] := by fin_cases b <;> rfl
theorem flagsWritten_rstTo (b : Fin 8) : flagsWritten (rstTo b) =
    ⟨false, false, false, false⟩ := by fin_cases b <;> rfl
theorem pushes_rstTo (b : Fin 8) (f : Flags) : pushes (rstTo b) f = true := by fin_cases b <;> rfl
theorem pops_rstTo (b : Fin 8) (f : Flags) : pops (rstTo b) f = false := by fin_cases b <;> rfl
theorem writesPc_rstTo (b : Fin 8) : writesPc (rstTo b) = true := by fin_cases b <;> rfl
theorem storedAddrs_rstTo (b : Fin 8) (s : State) : storedAddrs (rstTo b) s =
    [s.sp - 1, s.sp - 2] := by fin_cases b <;> rfl

theorem writtenRegs_rotReg (ro : RotOp) (r : Reg8) : writtenRegs (rotReg ro r) =
    [r] := by cases ro <;> cases r <;> rfl
theorem flagsWritten_rotReg (ro : RotOp) (r : Reg8) : flagsWritten (rotReg ro r) =
    ⟨true, true, true, true⟩ := by cases ro <;> cases r <;> rfl
theorem pushes_rotReg (ro : RotOp) (r : Reg8) (f : Flags) : pushes (rotReg ro r) f =
    false := by cases ro <;> cases r <;> rfl
theorem pops_rotReg (ro : RotOp) (r : Reg8) (f : Flags) : pops (rotReg ro r) f =
    false := by cases ro <;> cases r <;> rfl
theorem writesPc_rotReg (ro : RotOp) (r : Reg8) : writesPc (rotReg ro r) =
    false := by cases ro <;> cases r <;> rfl
theorem storedAddrs_rotReg (ro : RotOp) (r : Reg8) (s : State) : storedAddrs (rotReg ro r) s =
    [] := by cases ro <;> cases r <;> rfl

theorem writtenRegs_rotMem (ro : RotOp) : writtenRegs (rotMem ro) = [] := by cases ro <;> rfl
theorem flagsWritten_rotMem (ro : RotOp) : flagsWritten (rotMem ro) =
    ⟨true, true, true, true⟩ := by cases ro <;> rfl
theorem pushes_rotMem (ro : RotOp) (f : Flags) : pushes (rotMem ro) f = false := by cases ro <;> rfl
theorem pops_rotMem (ro : RotOp) (f : Flags) : pops (rotMem ro) f = false := by cases ro <;> rfl
theorem writesPc_rotMem (ro : RotOp) : writesPc (rotMem ro) = false := by cases ro <;> rfl
theorem storedAddrs_rotMem (ro : RotOp) (s : State) : storedAddrs (rotMem ro) s =
    [s.reg16 .hl] := by cases ro <;> rfl

theorem writtenRegs_bitReg (b : Fin 8) (r : Reg8) : writtenRegs (bitReg b r) =
    [] := by fin_cases b <;> cases r <;> rfl
theorem flagsWritten_bitReg (b : Fin 8) (r : Reg8) : flagsWritten (bitReg b r) =
    ⟨true, true, true, false⟩ := by fin_cases b <;> cases r <;> rfl
theorem pushes_bitReg (b : Fin 8) (r : Reg8) (f : Flags) : pushes (bitReg b r) f =
    false := by fin_cases b <;> cases r <;> rfl
theorem pops_bitReg (b : Fin 8) (r : Reg8) (f : Flags) : pops (bitReg b r) f =
    false := by fin_cases b <;> cases r <;> rfl
theorem writesPc_bitReg (b : Fin 8) (r : Reg8) : writesPc (bitReg b r) =
    false := by fin_cases b <;> cases r <;> rfl
theorem storedAddrs_bitReg (b : Fin 8) (r : Reg8) (s : State) : storedAddrs (bitReg b r) s =
    [] := by fin_cases b <;> cases r <;> rfl

theorem writtenRegs_bitMem (b : Fin 8) : writtenRegs (bitMem b) = [] := by fin_cases b <;> rfl
theorem flagsWritten_bitMem (b : Fin 8) : flagsWritten (bitMem b) =
    ⟨true, true, true, false⟩ := by fin_cases b <;> rfl
theorem pushes_bitMem (b : Fin 8) (f : Flags) : pushes (bitMem b) f = false := by fin_cases b <;> rfl
theorem pops_bitMem (b : Fin 8) (f : Flags) : pops (bitMem b) f = false := by fin_cases b <;> rfl
theorem writesPc_bitMem (b : Fin 8) : writesPc (bitMem b) = false := by fin_cases b <;> rfl
theorem storedAddrs_bitMem (b : Fin 8) (s : State) : storedAddrs (bitMem b) s = [] := by fin_cases b <;> rfl

theorem writtenRegs_resReg (b : Fin 8) (r : Reg8) : writtenRegs (resReg b r) =
    [r] := by fin_cases b <;> cases r <;> rfl
theorem flagsWritten_resReg (b : Fin 8) (r : Reg8) : flagsWritten (resReg b r) =
    ⟨false, false, false, false⟩ := by fin_cases b <;> cases r <;> rfl
theorem pushes_resReg (b : Fin 8) (r : Reg8) (f : Flags) : pushes (resReg b r) f =
    false := by fin_cases b <;> cases r <;> rfl
theorem pops_resReg (b : Fin 8) (r : Reg8) (f : Flags) : pops (resReg b r) f =
    false := by fin_cases b <;> cases r <;> rfl
theorem writesPc_resReg (b : Fin 8) (r : Reg8) : writesPc (resReg b r) =
    false := by fin_cases b <;> cases r <;> rfl
theorem storedAddrs_resReg (b : Fin 8) (r : Reg8) (s : State) : storedAddrs (resReg b r) s =
    [] := by fin_cases b <;> cases r <;> rfl

theorem writtenRegs_resMem (b : Fin 8) : writtenRegs (resMem b) = [] := by fin_cases b <;> rfl
theorem flagsWritten_resMem (b : Fin 8) : flagsWritten (resMem b) =
    ⟨false, false, false, false⟩ := by fin_cases b <;> rfl
theorem pushes_resMem (b : Fin 8) (f : Flags) : pushes (resMem b) f = false := by fin_cases b <;> rfl
theorem pops_resMem (b : Fin 8) (f : Flags) : pops (resMem b) f = false := by fin_cases b <;> rfl
theorem writesPc_resMem (b : Fin 8) : writesPc (resMem b) = false := by fin_cases b <;> rfl
theorem storedAddrs_resMem (b : Fin 8) (s : State) : storedAddrs (resMem b) s =
    [s.reg16 .hl] := by fin_cases b <;> rfl

theorem writtenRegs_setReg (b : Fin 8) (r : Reg8) : writtenRegs (setReg b r) =
    [r] := by fin_cases b <;> cases r <;> rfl
theorem flagsWritten_setReg (b : Fin 8) (r : Reg8) : flagsWritten (setReg b r) =
    ⟨false, false, false, false⟩ := by fin_cases b <;> cases r <;> rfl
theorem pushes_setReg (b : Fin 8) (r : Reg8) (f : Flags) : pushes (setReg b r) f =
    false := by fin_cases b <;> cases r <;> rfl
theorem pops_setReg (b : Fin 8) (r : Reg8) (f : Flags) : pops (setReg b r) f =
    false := by fin_cases b <;> cases r <;> rfl
theorem writesPc_setReg (b : Fin 8) (r : Reg8) : writesPc (setReg b r) =
    false := by fin_cases b <;> cases r <;> rfl
theorem storedAddrs_setReg (b : Fin 8) (r : Reg8) (s : State) : storedAddrs (setReg b r) s =
    [] := by fin_cases b <;> cases r <;> rfl

theorem writtenRegs_setMem (b : Fin 8) : writtenRegs (setMem b) = [] := by fin_cases b <;> rfl
theorem flagsWritten_setMem (b : Fin 8) : flagsWritten (setMem b) =
    ⟨false, false, false, false⟩ := by fin_cases b <;> rfl
theorem pushes_setMem (b : Fin 8) (f : Flags) : pushes (setMem b) f = false := by fin_cases b <;> rfl
theorem pops_setMem (b : Fin 8) (f : Flags) : pops (setMem b) f = false := by fin_cases b <;> rfl
theorem writesPc_setMem (b : Fin 8) : writesPc (setMem b) = false := by fin_cases b <;> rfl
theorem storedAddrs_setMem (b : Fin 8) (s : State) : storedAddrs (setMem b) s =
    [s.reg16 .hl] := by fin_cases b <;> rfl

end Sys2Proof.Machine
end

