-- ==== Sys2Proof/Tests/Slice0.lean ====
section
/-! SUPPORT. The model's own tests. Expected values come from the spec: the encodings from
spec/opcode_table.json and R360, R361 of spec/30_encoding.md, the vectors from spec/95_test_vectors.md,
whose row each step test names. The last part shows states that meet the hypotheses of the
obligations. -/
open Sys2Proof Sys2Proof.Machine

namespace Sys2Proof.Tests

/-! ### Well-formedness -/

theorem test_wf_unassigned_refused : (Instr.unassigned 0x00).wf = false := by decide
theorem test_wf_prefix_refused : (Instr.prefixCB 0x00).wf = false := by decide
theorem test_wf_unassigned_ok : (Instr.unassigned 0xDD).wf = true := by decide
theorem test_wf_nop_ok : Instr.nop.wf = true := by decide

/-! ### Decoding: the sixteen rows of each opcode map. An operand byte is 0x12, an operand word the
bytes 0x34 0x12. -/

/-- The instruction a whole byte list decodes to. -/
def dec (bytes : List Byte) : Option Instr :=
  match decode bytes with
  | .ok (i, []) => some i
  | _ => none

theorem test_primary_row_0 :
    List.map dec [[0x00], [0x01, 0x34, 0x12], [0x02], [0x03], [0x04], [0x05], [0x06, 0x12], [0x07],
      [0x08, 0x34, 0x12], [0x09], [0x0A], [0x0B], [0x0C], [0x0D], [0x0E, 0x12], [0x0F]] =
     [some .nop, some (.ldBCN16 0x1234), some .ldMemBCA, some .incBC, some .incB, some .decB,
      some (.ldBN8 0x12), some .rlca, some (.ldMemA16SP 0x1234), some .addHLBC, some .ldAMemBC,
      some .decBC, some .incC, some .decC, some (.ldCN8 0x12), some .rrca] := by
  decide

theorem test_primary_row_1 :
    List.map dec [[0x10, 0x00], [0x11, 0x34, 0x12], [0x12], [0x13], [0x14], [0x15], [0x16, 0x12], [0x17],
      [0x18, 0x12], [0x19], [0x1A], [0x1B], [0x1C], [0x1D], [0x1E, 0x12], [0x1F]] =
     [some .stop, some (.ldDEN16 0x1234), some .ldMemDEA, some .incDE, some .incD, some .decD,
      some (.ldDN8 0x12), some .rla, some (.jrE8 0x12), some .addHLDE, some .ldAMemDE, some .decDE,
      some .incE, some .decE, some (.ldEN8 0x12), some .rra] := by
  decide

theorem test_primary_row_2 :
    List.map dec [[0x20, 0x12], [0x21, 0x34, 0x12], [0x22], [0x23], [0x24], [0x25], [0x26, 0x12], [0x27],
      [0x28, 0x12], [0x29], [0x2A], [0x2B], [0x2C], [0x2D], [0x2E, 0x12], [0x2F]] =
     [some (.jrNZE8 0x12), some (.ldHLN16 0x1234), some .ldMemHLIncA, some .incHL, some .incH,
      some .decH, some (.ldHN8 0x12), some .daa, some (.jrZE8 0x12), some .addHLHL, some .ldAMemHLInc,
      some .decHL, some .incL, some .decL, some (.ldLN8 0x12), some .cpl] := by
  decide

theorem test_primary_row_3 :
    List.map dec [[0x30, 0x12], [0x31, 0x34, 0x12], [0x32], [0x33], [0x34], [0x35], [0x36, 0x12], [0x37],
      [0x38, 0x12], [0x39], [0x3A], [0x3B], [0x3C], [0x3D], [0x3E, 0x12], [0x3F]] =
     [some (.jrNCE8 0x12), some (.ldSPN16 0x1234), some .ldMemHLDecA, some .incSP, some .incMemHL,
      some .decMemHL, some (.ldMemHLN8 0x12), some .scf, some (.jrCE8 0x12), some .addHLSP,
      some .ldAMemHLDec, some .decSP, some .incA, some .decA, some (.ldAN8 0x12), some .ccf] := by
  decide

theorem test_primary_row_4 :
    List.map dec [[0x40], [0x41], [0x42], [0x43], [0x44], [0x45], [0x46], [0x47], [0x48], [0x49], [0x4A], [0x4B],
      [0x4C], [0x4D], [0x4E], [0x4F]] =
     [some .ldBB, some .ldBC, some .ldBD, some .ldBE, some .ldBH, some .ldBL, some .ldBMemHL, some .ldBA,
      some .ldCB, some .ldCC, some .ldCD, some .ldCE, some .ldCH, some .ldCL, some .ldCMemHL, some .ldCA] := by
  decide

theorem test_primary_row_5 :
    List.map dec [[0x50], [0x51], [0x52], [0x53], [0x54], [0x55], [0x56], [0x57], [0x58], [0x59], [0x5A], [0x5B],
      [0x5C], [0x5D], [0x5E], [0x5F]] =
     [some .ldDB, some .ldDC, some .ldDD, some .ldDE, some .ldDH, some .ldDL, some .ldDMemHL, some .ldDA,
      some .ldEB, some .ldEC, some .ldED, some .ldEE, some .ldEH, some .ldEL, some .ldEMemHL, some .ldEA] := by
  decide

theorem test_primary_row_6 :
    List.map dec [[0x60], [0x61], [0x62], [0x63], [0x64], [0x65], [0x66], [0x67], [0x68], [0x69], [0x6A], [0x6B],
      [0x6C], [0x6D], [0x6E], [0x6F]] =
     [some .ldHB, some .ldHC, some .ldHD, some .ldHE, some .ldHH, some .ldHL, some .ldHMemHL, some .ldHA,
      some .ldLB, some .ldLC, some .ldLD, some .ldLE, some .ldLH, some .ldLL, some .ldLMemHL, some .ldLA] := by
  decide

theorem test_primary_row_7 :
    List.map dec [[0x70], [0x71], [0x72], [0x73], [0x74], [0x75], [0x76], [0x77], [0x78], [0x79], [0x7A], [0x7B],
      [0x7C], [0x7D], [0x7E], [0x7F]] =
     [some .ldMemHLB, some .ldMemHLC, some .ldMemHLD, some .ldMemHLE, some .ldMemHLH, some .ldMemHLL,
      some .halt, some .ldMemHLA, some .ldAB, some .ldAC, some .ldAD, some .ldAE, some .ldAH, some .ldAL,
      some .ldAMemHL, some .ldAA] := by
  decide

theorem test_primary_row_8 :
    List.map dec [[0x80], [0x81], [0x82], [0x83], [0x84], [0x85], [0x86], [0x87], [0x88], [0x89], [0x8A], [0x8B],
      [0x8C], [0x8D], [0x8E], [0x8F]] =
     [some .addAB, some .addAC, some .addAD, some .addAE, some .addAH, some .addAL, some .addAMemHL,
      some .addAA, some .adcAB, some .adcAC, some .adcAD, some .adcAE, some .adcAH, some .adcAL,
      some .adcAMemHL, some .adcAA] := by
  decide

theorem test_primary_row_9 :
    List.map dec [[0x90], [0x91], [0x92], [0x93], [0x94], [0x95], [0x96], [0x97], [0x98], [0x99], [0x9A], [0x9B],
      [0x9C], [0x9D], [0x9E], [0x9F]] =
     [some .subB, some .subC, some .subD, some .subE, some .subH, some .subL, some .subMemHL, some .subA,
      some .sbcAB, some .sbcAC, some .sbcAD, some .sbcAE, some .sbcAH, some .sbcAL, some .sbcAMemHL,
      some .sbcAA] := by
  decide

theorem test_primary_row_A :
    List.map dec [[0xA0], [0xA1], [0xA2], [0xA3], [0xA4], [0xA5], [0xA6], [0xA7], [0xA8], [0xA9], [0xAA], [0xAB],
      [0xAC], [0xAD], [0xAE], [0xAF]] =
     [some .andB, some .andC, some .andD, some .andE, some .andH, some .andL, some .andMemHL, some .andA,
      some .xorB, some .xorC, some .xorD, some .xorE, some .xorH, some .xorL, some .xorMemHL, some .xorA] := by
  decide

theorem test_primary_row_B :
    List.map dec [[0xB0], [0xB1], [0xB2], [0xB3], [0xB4], [0xB5], [0xB6], [0xB7], [0xB8], [0xB9], [0xBA], [0xBB],
      [0xBC], [0xBD], [0xBE], [0xBF]] =
     [some .orB, some .orC, some .orD, some .orE, some .orH, some .orL, some .orMemHL, some .orA,
      some .cpB, some .cpC, some .cpD, some .cpE, some .cpH, some .cpL, some .cpMemHL, some .cpA] := by
  decide

theorem test_primary_row_C :
    List.map dec [[0xC0], [0xC1], [0xC2, 0x34, 0x12], [0xC3, 0x34, 0x12], [0xC4, 0x34, 0x12], [0xC5], [0xC6, 0x12],
      [0xC7], [0xC8], [0xC9], [0xCA, 0x34, 0x12], [0xCC, 0x34, 0x12], [0xCD, 0x34, 0x12], [0xCE, 0x12],
      [0xCF]] =
     [some .retNZ, some .popBC, some (.jpNZA16 0x1234), some (.jpA16 0x1234), some (.callNZA16 0x1234),
      some .pushBC, some (.addAN8 0x12), some .rst00, some .retZ, some .ret, some (.jpZA16 0x1234),
      some (.callZA16 0x1234), some (.callA16 0x1234), some (.adcAN8 0x12), some .rst08] := by
  decide

theorem test_primary_row_D :
    List.map dec [[0xD0], [0xD1], [0xD2, 0x34, 0x12], [0xD3], [0xD4, 0x34, 0x12], [0xD5], [0xD6, 0x12], [0xD7],
      [0xD8], [0xD9], [0xDA, 0x34, 0x12], [0xDB], [0xDC, 0x34, 0x12], [0xDD], [0xDE, 0x12], [0xDF]] =
     [some .retNC, some .popDE, some (.jpNCA16 0x1234), some (.unassigned 0xD3),
      some (.callNCA16 0x1234), some .pushDE, some (.subN8 0x12), some .rst10, some .retC, some .reti,
      some (.jpCA16 0x1234), some (.unassigned 0xDB), some (.callCA16 0x1234), some (.unassigned 0xDD),
      some (.sbcAN8 0x12), some .rst18] := by
  decide

theorem test_primary_row_E :
    List.map dec [[0xE0, 0x12], [0xE1], [0xE2], [0xE3], [0xE4], [0xE5], [0xE6, 0x12], [0xE7], [0xE8, 0x12], [0xE9],
      [0xEA, 0x34, 0x12], [0xEB], [0xEC], [0xED], [0xEE, 0x12], [0xEF]] =
     [some (.ldhMemA8A 0x12), some .popHL, some .ldMemCA, some (.unassigned 0xE3),
      some (.unassigned 0xE4), some .pushHL, some (.andN8 0x12), some .rst20, some (.addSPE8 0x12),
      some .jpHL, some (.ldMemA16A 0x1234), some (.unassigned 0xEB), some (.unassigned 0xEC),
      some (.unassigned 0xED), some (.xorN8 0x12), some .rst28] := by
  decide

theorem test_primary_row_F :
    List.map dec [[0xF0, 0x12], [0xF1], [0xF2], [0xF3], [0xF4], [0xF5], [0xF6, 0x12], [0xF7], [0xF8, 0x12], [0xF9],
      [0xFA, 0x34, 0x12], [0xFB], [0xFC], [0xFD], [0xFE, 0x12], [0xFF]] =
     [some (.ldhAMemA8 0x12), some .popAF, some .ldAMemC, some .di, some (.unassigned 0xF4),
      some .pushAF, some (.orN8 0x12), some .rst30, some (.ldHLSPE8 0x12), some .ldSPHL,
      some (.ldAMemA16 0x1234), some .ei, some (.unassigned 0xFC), some (.unassigned 0xFD),
      some (.cpN8 0x12), some .rst38] := by
  decide

theorem test_extended_row_0 :
    List.map dec [[0xCB, 0x00], [0xCB, 0x01], [0xCB, 0x02], [0xCB, 0x03], [0xCB, 0x04], [0xCB, 0x05], [0xCB, 0x06],
      [0xCB, 0x07], [0xCB, 0x08], [0xCB, 0x09], [0xCB, 0x0A], [0xCB, 0x0B], [0xCB, 0x0C], [0xCB, 0x0D],
      [0xCB, 0x0E], [0xCB, 0x0F]] =
     [some .rlcB, some .rlcC, some .rlcD, some .rlcE, some .rlcH, some .rlcL, some .rlcMemHL, some .rlcA,
      some .rrcB, some .rrcC, some .rrcD, some .rrcE, some .rrcH, some .rrcL, some .rrcMemHL, some .rrcA] := by
  decide

theorem test_extended_row_1 :
    List.map dec [[0xCB, 0x10], [0xCB, 0x11], [0xCB, 0x12], [0xCB, 0x13], [0xCB, 0x14], [0xCB, 0x15], [0xCB, 0x16],
      [0xCB, 0x17], [0xCB, 0x18], [0xCB, 0x19], [0xCB, 0x1A], [0xCB, 0x1B], [0xCB, 0x1C], [0xCB, 0x1D],
      [0xCB, 0x1E], [0xCB, 0x1F]] =
     [some .rlB, some .rlC, some .rlD, some .rlE, some .rlH, some .rlL, some .rlMemHL, some .rlA,
      some .rrB, some .rrC, some .rrD, some .rrE, some .rrH, some .rrL, some .rrMemHL, some .rrA] := by
  decide

theorem test_extended_row_2 :
    List.map dec [[0xCB, 0x20], [0xCB, 0x21], [0xCB, 0x22], [0xCB, 0x23], [0xCB, 0x24], [0xCB, 0x25], [0xCB, 0x26],
      [0xCB, 0x27], [0xCB, 0x28], [0xCB, 0x29], [0xCB, 0x2A], [0xCB, 0x2B], [0xCB, 0x2C], [0xCB, 0x2D],
      [0xCB, 0x2E], [0xCB, 0x2F]] =
     [some .slaB, some .slaC, some .slaD, some .slaE, some .slaH, some .slaL, some .slaMemHL, some .slaA,
      some .sraB, some .sraC, some .sraD, some .sraE, some .sraH, some .sraL, some .sraMemHL, some .sraA] := by
  decide

theorem test_extended_row_3 :
    List.map dec [[0xCB, 0x30], [0xCB, 0x31], [0xCB, 0x32], [0xCB, 0x33], [0xCB, 0x34], [0xCB, 0x35], [0xCB, 0x36],
      [0xCB, 0x37], [0xCB, 0x38], [0xCB, 0x39], [0xCB, 0x3A], [0xCB, 0x3B], [0xCB, 0x3C], [0xCB, 0x3D],
      [0xCB, 0x3E], [0xCB, 0x3F]] =
     [some .swapB, some .swapC, some .swapD, some .swapE, some .swapH, some .swapL, some .swapMemHL,
      some .swapA, some .srlB, some .srlC, some .srlD, some .srlE, some .srlH, some .srlL,
      some .srlMemHL, some .srlA] := by
  decide

theorem test_extended_row_4 :
    List.map dec [[0xCB, 0x40], [0xCB, 0x41], [0xCB, 0x42], [0xCB, 0x43], [0xCB, 0x44], [0xCB, 0x45], [0xCB, 0x46],
      [0xCB, 0x47], [0xCB, 0x48], [0xCB, 0x49], [0xCB, 0x4A], [0xCB, 0x4B], [0xCB, 0x4C], [0xCB, 0x4D],
      [0xCB, 0x4E], [0xCB, 0x4F]] =
     [some .bit0B, some .bit0C, some .bit0D, some .bit0E, some .bit0H, some .bit0L, some .bit0MemHL,
      some .bit0A, some .bit1B, some .bit1C, some .bit1D, some .bit1E, some .bit1H, some .bit1L,
      some .bit1MemHL, some .bit1A] := by
  decide

theorem test_extended_row_5 :
    List.map dec [[0xCB, 0x50], [0xCB, 0x51], [0xCB, 0x52], [0xCB, 0x53], [0xCB, 0x54], [0xCB, 0x55], [0xCB, 0x56],
      [0xCB, 0x57], [0xCB, 0x58], [0xCB, 0x59], [0xCB, 0x5A], [0xCB, 0x5B], [0xCB, 0x5C], [0xCB, 0x5D],
      [0xCB, 0x5E], [0xCB, 0x5F]] =
     [some .bit2B, some .bit2C, some .bit2D, some .bit2E, some .bit2H, some .bit2L, some .bit2MemHL,
      some .bit2A, some .bit3B, some .bit3C, some .bit3D, some .bit3E, some .bit3H, some .bit3L,
      some .bit3MemHL, some .bit3A] := by
  decide

theorem test_extended_row_6 :
    List.map dec [[0xCB, 0x60], [0xCB, 0x61], [0xCB, 0x62], [0xCB, 0x63], [0xCB, 0x64], [0xCB, 0x65], [0xCB, 0x66],
      [0xCB, 0x67], [0xCB, 0x68], [0xCB, 0x69], [0xCB, 0x6A], [0xCB, 0x6B], [0xCB, 0x6C], [0xCB, 0x6D],
      [0xCB, 0x6E], [0xCB, 0x6F]] =
     [some .bit4B, some .bit4C, some .bit4D, some .bit4E, some .bit4H, some .bit4L, some .bit4MemHL,
      some .bit4A, some .bit5B, some .bit5C, some .bit5D, some .bit5E, some .bit5H, some .bit5L,
      some .bit5MemHL, some .bit5A] := by
  decide

theorem test_extended_row_7 :
    List.map dec [[0xCB, 0x70], [0xCB, 0x71], [0xCB, 0x72], [0xCB, 0x73], [0xCB, 0x74], [0xCB, 0x75], [0xCB, 0x76],
      [0xCB, 0x77], [0xCB, 0x78], [0xCB, 0x79], [0xCB, 0x7A], [0xCB, 0x7B], [0xCB, 0x7C], [0xCB, 0x7D],
      [0xCB, 0x7E], [0xCB, 0x7F]] =
     [some .bit6B, some .bit6C, some .bit6D, some .bit6E, some .bit6H, some .bit6L, some .bit6MemHL,
      some .bit6A, some .bit7B, some .bit7C, some .bit7D, some .bit7E, some .bit7H, some .bit7L,
      some .bit7MemHL, some .bit7A] := by
  decide

theorem test_extended_row_8 :
    List.map dec [[0xCB, 0x80], [0xCB, 0x81], [0xCB, 0x82], [0xCB, 0x83], [0xCB, 0x84], [0xCB, 0x85], [0xCB, 0x86],
      [0xCB, 0x87], [0xCB, 0x88], [0xCB, 0x89], [0xCB, 0x8A], [0xCB, 0x8B], [0xCB, 0x8C], [0xCB, 0x8D],
      [0xCB, 0x8E], [0xCB, 0x8F]] =
     [some .res0B, some .res0C, some .res0D, some .res0E, some .res0H, some .res0L, some .res0MemHL,
      some .res0A, some .res1B, some .res1C, some .res1D, some .res1E, some .res1H, some .res1L,
      some .res1MemHL, some .res1A] := by
  decide

theorem test_extended_row_9 :
    List.map dec [[0xCB, 0x90], [0xCB, 0x91], [0xCB, 0x92], [0xCB, 0x93], [0xCB, 0x94], [0xCB, 0x95], [0xCB, 0x96],
      [0xCB, 0x97], [0xCB, 0x98], [0xCB, 0x99], [0xCB, 0x9A], [0xCB, 0x9B], [0xCB, 0x9C], [0xCB, 0x9D],
      [0xCB, 0x9E], [0xCB, 0x9F]] =
     [some .res2B, some .res2C, some .res2D, some .res2E, some .res2H, some .res2L, some .res2MemHL,
      some .res2A, some .res3B, some .res3C, some .res3D, some .res3E, some .res3H, some .res3L,
      some .res3MemHL, some .res3A] := by
  decide

theorem test_extended_row_A :
    List.map dec [[0xCB, 0xA0], [0xCB, 0xA1], [0xCB, 0xA2], [0xCB, 0xA3], [0xCB, 0xA4], [0xCB, 0xA5], [0xCB, 0xA6],
      [0xCB, 0xA7], [0xCB, 0xA8], [0xCB, 0xA9], [0xCB, 0xAA], [0xCB, 0xAB], [0xCB, 0xAC], [0xCB, 0xAD],
      [0xCB, 0xAE], [0xCB, 0xAF]] =
     [some .res4B, some .res4C, some .res4D, some .res4E, some .res4H, some .res4L, some .res4MemHL,
      some .res4A, some .res5B, some .res5C, some .res5D, some .res5E, some .res5H, some .res5L,
      some .res5MemHL, some .res5A] := by
  decide

theorem test_extended_row_B :
    List.map dec [[0xCB, 0xB0], [0xCB, 0xB1], [0xCB, 0xB2], [0xCB, 0xB3], [0xCB, 0xB4], [0xCB, 0xB5], [0xCB, 0xB6],
      [0xCB, 0xB7], [0xCB, 0xB8], [0xCB, 0xB9], [0xCB, 0xBA], [0xCB, 0xBB], [0xCB, 0xBC], [0xCB, 0xBD],
      [0xCB, 0xBE], [0xCB, 0xBF]] =
     [some .res6B, some .res6C, some .res6D, some .res6E, some .res6H, some .res6L, some .res6MemHL,
      some .res6A, some .res7B, some .res7C, some .res7D, some .res7E, some .res7H, some .res7L,
      some .res7MemHL, some .res7A] := by
  decide

theorem test_extended_row_C :
    List.map dec [[0xCB, 0xC0], [0xCB, 0xC1], [0xCB, 0xC2], [0xCB, 0xC3], [0xCB, 0xC4], [0xCB, 0xC5], [0xCB, 0xC6],
      [0xCB, 0xC7], [0xCB, 0xC8], [0xCB, 0xC9], [0xCB, 0xCA], [0xCB, 0xCB], [0xCB, 0xCC], [0xCB, 0xCD],
      [0xCB, 0xCE], [0xCB, 0xCF]] =
     [some .set0B, some .set0C, some .set0D, some .set0E, some .set0H, some .set0L, some .set0MemHL,
      some .set0A, some .set1B, some .set1C, some .set1D, some .set1E, some .set1H, some .set1L,
      some .set1MemHL, some .set1A] := by
  decide

theorem test_extended_row_D :
    List.map dec [[0xCB, 0xD0], [0xCB, 0xD1], [0xCB, 0xD2], [0xCB, 0xD3], [0xCB, 0xD4], [0xCB, 0xD5], [0xCB, 0xD6],
      [0xCB, 0xD7], [0xCB, 0xD8], [0xCB, 0xD9], [0xCB, 0xDA], [0xCB, 0xDB], [0xCB, 0xDC], [0xCB, 0xDD],
      [0xCB, 0xDE], [0xCB, 0xDF]] =
     [some .set2B, some .set2C, some .set2D, some .set2E, some .set2H, some .set2L, some .set2MemHL,
      some .set2A, some .set3B, some .set3C, some .set3D, some .set3E, some .set3H, some .set3L,
      some .set3MemHL, some .set3A] := by
  decide

theorem test_extended_row_E :
    List.map dec [[0xCB, 0xE0], [0xCB, 0xE1], [0xCB, 0xE2], [0xCB, 0xE3], [0xCB, 0xE4], [0xCB, 0xE5], [0xCB, 0xE6],
      [0xCB, 0xE7], [0xCB, 0xE8], [0xCB, 0xE9], [0xCB, 0xEA], [0xCB, 0xEB], [0xCB, 0xEC], [0xCB, 0xED],
      [0xCB, 0xEE], [0xCB, 0xEF]] =
     [some .set4B, some .set4C, some .set4D, some .set4E, some .set4H, some .set4L, some .set4MemHL,
      some .set4A, some .set5B, some .set5C, some .set5D, some .set5E, some .set5H, some .set5L,
      some .set5MemHL, some .set5A] := by
  decide

theorem test_extended_row_F :
    List.map dec [[0xCB, 0xF0], [0xCB, 0xF1], [0xCB, 0xF2], [0xCB, 0xF3], [0xCB, 0xF4], [0xCB, 0xF5], [0xCB, 0xF6],
      [0xCB, 0xF7], [0xCB, 0xF8], [0xCB, 0xF9], [0xCB, 0xFA], [0xCB, 0xFB], [0xCB, 0xFC], [0xCB, 0xFD],
      [0xCB, 0xFE], [0xCB, 0xFF]] =
     [some .set6B, some .set6C, some .set6D, some .set6E, some .set6H, some .set6L, some .set6MemHL,
      some .set6A, some .set7B, some .set7C, some .set7D, some .set7E, some .set7H, some .set7L,
      some .set7MemHL, some .set7A] := by
  decide

theorem test_decode_truncated : decode [0x3E] = .error (.truncated 0x3E) := rfl
theorem test_decode_no_bytes : decode [] = .error .noBytes := rfl
theorem test_decode_leaves_rest : decode [0x00, 0x76] = .ok (.nop, [0x76]) := rfl
theorem test_decode_stop_any_second : decode [0x10, 0xAB] = .ok (.stop, []) := rfl
theorem test_table_word_primary : decodeTableWord 8 0x3E = some (.ldAN8 0x00) := by decide
theorem test_table_word_extended : decodeTableWord 16 0xCB37 = some .swapA := by decide

/-! ### One step -/

/-- The start of a vector: every register 0, SP = 0xFFFE, pc = 0x0100, the session at a boundary with no
interrupt pending. -/
def blank : State :=
  { State.reset with
    a := 0, c := 0, e := 0, h := 0, l := 0, flags := ⟨false, false, false, false⟩, irq := none }

/-- `bytes` in memory from an address on. -/
def bytesAt (s : State) (addr : Nat) (bytes : List Byte) : State :=
  { s with mem := storeBytes s.mem addr bytes }

/-- F of a start, by its byte. -/
def flagByte (s : State) (f : Byte) : State := { s with flags := Flags.ofByte f }

/-- The step answers next, with a state of which `p` holds. -/
def stepTo (s : State) (p : State → Bool) : Bool :=
  match step s with
  | .next t => p t
  | _ => false

/-- Registers A, F and pc and the ticks owed, as a vector gives them: its cost less one. -/
def shows (t : State) (a f : Byte) (pc : Word) (cost : Nat) : Bool :=
  decide (t.a = a) && decide (t.flags.toByte = f) && decide (t.pc = pc) &&
    decide (t.remaining + 1 = cost)

/-- V20.1, LD (0xE123),A. -/
theorem test_V20_1 : stepTo (bytesAt ({ blank with a := 0x5A } : State) 0x0100 [0xEA, 0x23, 0xE1]) (fun t =>
      shows t 0x5A 0x00 0x0103 4 && decide (t.stored 0xC123 = some 0x5A)) = true := by decide

/-- V20.4, LD A,(0xA000). -/
theorem test_V20_4 : stepTo (bytesAt blank 0x0100 [0xFA, 0x00, 0xA0]) (fun t =>
      shows t 0xFF 0x00 0x0103 4) = true := by decide

/-- V20.7, LD (0xFEA0),A. -/
theorem test_V20_7 : stepTo (bytesAt ({ blank with a := 0x33 } : State) 0x0100 [0xEA, 0xA0, 0xFE]) (fun t =>
      shows t 0x33 0x00 0x0103 4) = true := by decide

/-- V20.13, LD (0xFFFF),SP. -/
theorem test_V20_13 : stepTo (bytesAt ({ blank with sp := 0xBEEF } : State) 0x0100 [0x08, 0xFF, 0xFF]) (fun t =>
      shows t 0x00 0x00 0x0103 5 && decide (t.events = [.ioWrite 0xFFFF 0xEF 0])) = true := by decide

/-- V20.14, LDH (0x05),A. -/
theorem test_V20_14 : stepTo (bytesAt ({ blank with a := 0xAB } : State) 0x0100 [0xE0, 0x05]) (fun t =>
      shows t 0xAB 0x00 0x0102 3 && decide (t.events = [.ioWrite 0xFF05 0xAB 0])) = true := by decide

/-- V41.1, LD B,C. -/
theorem test_V41_1 : stepTo (bytesAt ({ blank with c := 0x5A } : State) 0x0100 [0x41]) (fun t =>
      shows t 0x00 0x00 0x0101 1 && decide (t.b = 0x5A)) = true := by decide

/-- V41.2, LD A,A. -/
theorem test_V41_2 : stepTo (bytesAt ({ blank with a := 0x33 } : State) 0x0100 [0x7F]) (fun t =>
      shows t 0x33 0x00 0x0101 1) = true := by decide

/-- V41.3, LD D,n8. -/
theorem test_V41_3 : stepTo (bytesAt blank 0x0100 [0x16, 0x80]) (fun t =>
      shows t 0x00 0x00 0x0102 2 && decide (t.d = 0x80)) = true := by decide

/-- V41.4, LD E,(HL). -/
theorem test_V41_4 : stepTo (bytesAt (bytesAt ({ blank with h := 0xC0, l := 0x10 } : State) 0x0100 [0x5E]) 0xC010 [0x77]) (fun t =>
      shows t 0x00 0x00 0x0101 2 && decide (t.e = 0x77)) = true := by decide

/-- V41.5, LD (HL),H. -/
theorem test_V41_5 : stepTo (bytesAt ({ blank with h := 0xC1, l := 0x02 } : State) 0x0100 [0x74]) (fun t =>
      shows t 0x00 0x00 0x0101 2 && decide (t.stored 0xC102 = some 0xC1)) = true := by decide

/-- V41.6, LD (HL),n8. -/
theorem test_V41_6 : stepTo (bytesAt ({ blank with h := 0xD0, l := 0x00 } : State) 0x0100 [0x36, 0xAB]) (fun t =>
      shows t 0x00 0x00 0x0102 3 && decide (t.stored 0xD000 = some 0xAB)) = true := by decide

/-- V41.7, LD A,(DE). -/
theorem test_V41_7 : stepTo (bytesAt (bytesAt ({ blank with d := 0xE0, e := 0x05 } : State) 0x0100 [0x1A]) 0xC005 [0x44]) (fun t =>
      shows t 0x44 0x00 0x0101 2) = true := by decide

/-- V41.8, LD (BC),A. -/
theorem test_V41_8 : stepTo (bytesAt ({ blank with a := 0x99, b := 0xC0, c := 0x00 } : State) 0x0100 [0x02]) (fun t =>
      shows t 0x99 0x00 0x0101 2 && decide (t.stored 0xC000 = some 0x99)) = true := by decide

/-- V41.9, LD A,(HL+). -/
theorem test_V41_9 : stepTo (bytesAt (bytesAt ({ blank with h := 0xC0, l := 0xFF } : State) 0x0100 [0x2A]) 0xC0FF [0x12]) (fun t =>
      shows t 0x12 0x00 0x0101 2 && decide (t.h = 0xC1) && decide (t.l = 0x00)) = true := by decide

/-- V41.10, LD A,(HL-). -/
theorem test_V41_10 : stepTo (bytesAt (bytesAt ({ blank with h := 0xC0, l := 0x00 } : State) 0x0100 [0x3A]) 0xC000 [0x34]) (fun t =>
      shows t 0x34 0x00 0x0101 2 && decide (t.h = 0xBF) && decide (t.l = 0xFF)) = true := by decide

/-- V41.11, LD (HL+),A. -/
theorem test_V41_11 : stepTo (bytesAt ({ blank with a := 0x1F, h := 0xFF, l := 0xFF } : State) 0x0100 [0x22]) (fun t =>
      shows t 0x1F 0x00 0x0101 2 &&
      decide (t.h = 0x00) &&
      decide (t.l = 0x00) &&
      decide (t.events = [.ioWrite 0xFFFF 0x1F 0])) = true := by decide

/-- V41.12, LD (HL-),A. -/
theorem test_V41_12 : stepTo (bytesAt ({ blank with a := 0x01, h := 0xC0, l := 0x00 } : State) 0x0100 [0x32]) (fun t =>
      shows t 0x01 0x00 0x0101 2 &&
      decide (t.h = 0xBF) &&
      decide (t.l = 0xFF) &&
      decide (t.stored 0xC000 = some 0x01)) = true := by decide

/-- V41.13, LDH (a8),A. -/
theorem test_V41_13 : stepTo (bytesAt ({ blank with a := 0x5C } : State) 0x0100 [0xE0, 0x80]) (fun t =>
      shows t 0x5C 0x00 0x0102 3 && decide (t.stored 0xFF80 = some 0x5C)) = true := by decide

/-- V41.14, LDH (a8),A. -/
theorem test_V41_14 : stepTo (bytesAt ({ blank with a := 0x04 } : State) 0x0100 [0xE0, 0x0F]) (fun t =>
      shows t 0x04 0x00 0x0102 3 && decide (t.events = [.ioWrite 0xFF0F 0x04 0])) = true := by decide

/-- V41.16, LDH A,(a8). -/
theorem test_V41_16 : stepTo (bytesAt (bytesAt blank 0x0100 [0xF0, 0xFE]) 0xFFFE [0x3C]) (fun t =>
      shows t 0x3C 0x00 0x0102 3) = true := by decide

/-- V41.17, LD (C),A. -/
theorem test_V41_17 : stepTo (bytesAt ({ blank with a := 0x91, c := 0x40 } : State) 0x0100 [0xE2]) (fun t =>
      shows t 0x91 0x00 0x0101 2 && decide (t.events = [.ioWrite 0xFF40 0x91 0])) = true := by decide

/-- V41.18, LD A,(C). -/
theorem test_V41_18 : stepTo (bytesAt (bytesAt ({ blank with c := 0x90 } : State) 0x0100 [0xF2]) 0xFF90 [0x07]) (fun t =>
      shows t 0x07 0x00 0x0101 2) = true := by decide

/-- V41.20, LD (a16),A. -/
theorem test_V41_20 : stepTo (bytesAt ({ blank with a := 0xEE } : State) 0x0100 [0xEA, 0x34, 0xC2]) (fun t =>
      shows t 0xEE 0x00 0x0103 4 && decide (t.stored 0xC234 = some 0xEE)) = true := by decide

/-- V42.1, LD DE,n16. -/
theorem test_V42_1 : stepTo (bytesAt blank 0x0100 [0x11, 0xCD, 0xAB]) (fun t =>
      shows t 0x00 0x00 0x0103 3 && decide (t.d = 0xAB) && decide (t.e = 0xCD)) = true := by decide

/-- V42.2, LD SP,n16. -/
theorem test_V42_2 : stepTo (bytesAt blank 0x0100 [0x31, 0x00, 0xE0]) (fun t =>
      shows t 0x00 0x00 0x0103 3 && decide (t.sp = 0xE000)) = true := by decide

/-- V42.3, LD (a16),SP. -/
theorem test_V42_3 : stepTo (bytesAt ({ blank with sp := 0x1234 } : State) 0x0100 [0x08, 0x00, 0xC0]) (fun t =>
      shows t 0x00 0x00 0x0103 5 &&
      decide (t.stored 0xC000 = some 0x34) &&
      decide (t.stored 0xC001 = some 0x12)) = true := by decide

/-- V42.4, LD (a16),SP. -/
theorem test_V42_4 : stepTo (bytesAt ({ blank with sp := 0xBEEF } : State) 0x0100 [0x08, 0xFF, 0xFF]) (fun t =>
      shows t 0x00 0x00 0x0103 5 && decide (t.events = [.ioWrite 0xFFFF 0xEF 0])) = true := by decide

/-- V42.5, LD HL,SP+e8. -/
theorem test_V42_5 : stepTo (bytesAt ({ blank with sp := 0xFFF8 } : State) 0x0100 [0xF8, 0x02]) (fun t =>
      shows t 0x00 0x00 0x0102 3 && decide (t.h = 0xFF) && decide (t.l = 0xFA)) = true := by decide

/-- V42.7, LD HL,SP+e8. -/
theorem test_V42_7 : stepTo (bytesAt ({ blank with sp := 0x0001 } : State) 0x0100 [0xF8, 0xFF]) (fun t =>
      shows t 0x00 0x30 0x0102 3) = true := by decide

/-- V42.8, LD SP,HL. -/
theorem test_V42_8 : stepTo (bytesAt ({ blank with h := 0xDF, l := 0xF0 } : State) 0x0100 [0xF9]) (fun t =>
      shows t 0x00 0x00 0x0101 2 && decide (t.sp = 0xDFF0)) = true := by decide

/-- V42.9, PUSH BC. -/
theorem test_V42_9 : stepTo (bytesAt ({ blank with b := 0xAB, c := 0xCD } : State) 0x0100 [0xC5]) (fun t =>
      shows t 0x00 0x00 0x0101 4 &&
      decide (t.sp = 0xFFFC) &&
      decide (t.stored 0xFFFC = some 0xCD) &&
      decide (t.stored 0xFFFD = some 0xAB)) = true := by decide

/-- V42.10, PUSH AF. -/
theorem test_V42_10 : stepTo (bytesAt (flagByte ({ blank with a := 0x12 } : State) 0xB0) 0x0100 [0xF5]) (fun t =>
      shows t 0x12 0xB0 0x0101 4 &&
      decide (t.sp = 0xFFFC) &&
      decide (t.stored 0xFFFC = some 0xB0) &&
      decide (t.stored 0xFFFD = some 0x12)) = true := by decide

/-- V42.11, POP AF. -/
theorem test_V42_11 : stepTo (bytesAt (bytesAt (bytesAt ({ blank with sp := 0xC000 } : State) 0x0100 [0xF1]) 0xC000 [0xFF]) 0xC001 [0x80]) (fun t =>
      shows t 0x80 0xF0 0x0101 3 && decide (t.sp = 0xC002)) = true := by decide

/-- V42.13, POP DE. -/
theorem test_V42_13 : stepTo (bytesAt (bytesAt (bytesAt ({ blank with sp := 0xDFFE } : State) 0x0100 [0xD1]) 0xDFFE [0x22]) 0xDFFF [0x33]) (fun t =>
      shows t 0x00 0x00 0x0101 3 &&
      decide (t.d = 0x33) &&
      decide (t.e = 0x22) &&
      decide (t.sp = 0xE000)) = true := by decide

/-- V43.1, ADD A,B. -/
theorem test_V43_1 : stepTo (bytesAt ({ blank with a := 0x3A, b := 0xC6 } : State) 0x0100 [0x80]) (fun t =>
      shows t 0x00 0xB0 0x0101 1) = true := by decide

/-- V43.3, ADD A,B. -/
theorem test_V43_3 : stepTo (bytesAt ({ blank with a := 0xF0, b := 0x20 } : State) 0x0100 [0x80]) (fun t =>
      shows t 0x10 0x10 0x0101 1) = true := by decide

/-- V43.5, ADD A,(HL). -/
theorem test_V43_5 : stepTo (bytesAt (bytesAt ({ blank with a := 0x01, h := 0xC0, l := 0x00 } : State) 0x0100 [0x86]) 0xC000 [0xFF]) (fun t =>
      shows t 0x00 0xB0 0x0101 2) = true := by decide

/-- V43.6, ADD A,n8. -/
theorem test_V43_6 : stepTo (bytesAt ({ blank with a := 0x00 } : State) 0x0100 [0xC6, 0x00]) (fun t =>
      shows t 0x00 0x80 0x0102 2) = true := by decide

/-- V43.7, ADC A,C. -/
theorem test_V43_7 : stepTo (bytesAt (flagByte ({ blank with a := 0xE1, c := 0x0F } : State) 0x10) 0x0100 [0x89]) (fun t =>
      shows t 0xF1 0x20 0x0101 1) = true := by decide

/-- V43.8, ADC A,n8. -/
theorem test_V43_8 : stepTo (bytesAt (flagByte ({ blank with a := 0x00 } : State) 0x10) 0x0100 [0xCE, 0xFF]) (fun t =>
      shows t 0x00 0xB0 0x0102 2) = true := by decide

/-- V43.9, SUB E. -/
theorem test_V43_9 : stepTo (bytesAt ({ blank with a := 0x3E, e := 0x3E } : State) 0x0100 [0x93]) (fun t =>
      shows t 0x00 0xC0 0x0101 1) = true := by decide

/-- V43.10, SUB n8. -/
theorem test_V43_10 : stepTo (bytesAt ({ blank with a := 0x00 } : State) 0x0100 [0xD6, 0x01]) (fun t =>
      shows t 0xFF 0x70 0x0102 2) = true := by decide

/-- V43.12, SBC A,A. -/
theorem test_V43_12 : stepTo (bytesAt (flagByte ({ blank with a := 0x00 } : State) 0x10) 0x0100 [0x9F]) (fun t =>
      shows t 0xFF 0x70 0x0101 1) = true := by decide

/-- V43.13, SBC A,n8. -/
theorem test_V43_13 : stepTo (bytesAt (flagByte ({ blank with a := 0x3B } : State) 0x10) 0x0100 [0xDE, 0x3A]) (fun t =>
      shows t 0x00 0xC0 0x0102 2) = true := by decide

/-- V43.14, AND L. -/
theorem test_V43_14 : stepTo (bytesAt ({ blank with a := 0x5A, l := 0x3F } : State) 0x0100 [0xA5]) (fun t =>
      shows t 0x1A 0x20 0x0101 1) = true := by decide

/-- V43.15, AND n8. -/
theorem test_V43_15 : stepTo (bytesAt (flagByte ({ blank with a := 0xFF } : State) 0x10) 0x0100 [0xE6, 0x00]) (fun t =>
      shows t 0x00 0xA0 0x0102 2) = true := by decide

/-- V43.16, XOR A. -/
theorem test_V43_16 : stepTo (bytesAt (flagByte ({ blank with a := 0x77 } : State) 0x70) 0x0100 [0xAF]) (fun t =>
      shows t 0x00 0x80 0x0101 1) = true := by decide

/-- V43.17, XOR (HL). -/
theorem test_V43_17 : stepTo (bytesAt (bytesAt ({ blank with a := 0xFF, h := 0xC0, l := 0x00 } : State) 0x0100 [0xAE]) 0xC000 [0x8A]) (fun t =>
      shows t 0x75 0x00 0x0101 2) = true := by decide

/-- V43.18, OR B. -/
theorem test_V43_18 : stepTo (bytesAt (flagByte ({ blank with a := 0x00, b := 0x00 } : State) 0x70) 0x0100 [0xB0]) (fun t =>
      shows t 0x00 0x80 0x0101 1) = true := by decide

/-- V43.19, OR n8. -/
theorem test_V43_19 : stepTo (bytesAt ({ blank with a := 0x5A } : State) 0x0100 [0xF6, 0x03]) (fun t =>
      shows t 0x5B 0x00 0x0102 2) = true := by decide

/-- V43.20, CP B. -/
theorem test_V43_20 : stepTo (bytesAt ({ blank with a := 0x3C, b := 0x2F } : State) 0x0100 [0xB8]) (fun t =>
      shows t 0x3C 0x60 0x0101 1) = true := by decide

/-- V43.22, CP (HL). -/
theorem test_V43_22 : stepTo (bytesAt (bytesAt ({ blank with a := 0x3C, h := 0xC0, l := 0x00 } : State) 0x0100 [0xBE]) 0xC000 [0x40]) (fun t =>
      shows t 0x3C 0x50 0x0101 2) = true := by decide

/-- V43.23, INC A. -/
theorem test_V43_23 : stepTo (bytesAt (flagByte ({ blank with a := 0xFF } : State) 0x10) 0x0100 [0x3C]) (fun t =>
      shows t 0x00 0xB0 0x0101 1) = true := by decide

/-- V43.25, INC (HL). -/
theorem test_V43_25 : stepTo (bytesAt (bytesAt ({ blank with h := 0xC0, l := 0x00 } : State) 0x0100 [0x34]) 0xC000 [0x50]) (fun t =>
      shows t 0x00 0x00 0x0101 3 && decide (t.stored 0xC000 = some 0x51)) = true := by decide

/-- V43.26, INC (HL). -/
theorem test_V43_26 : stepTo (bytesAt (bytesAt ({ blank with h := 0xC0, l := 0x00 } : State) 0x0100 [0x34]) 0xC000 [0xFF]) (fun t =>
      shows t 0x00 0xA0 0x0101 3 && decide (t.stored 0xC000 = some 0x00)) = true := by decide

/-- V43.28, DEC D. -/
theorem test_V43_28 : stepTo (bytesAt ({ blank with d := 0x00 } : State) 0x0100 [0x15]) (fun t =>
      shows t 0x00 0x60 0x0101 1 && decide (t.d = 0xFF)) = true := by decide

/-- V43.29, DEC (HL). -/
theorem test_V43_29 : stepTo (bytesAt (bytesAt (flagByte ({ blank with h := 0xC0, l := 0x00 } : State) 0x10) 0x0100 [0x35]) 0xC000 [0x10]) (fun t =>
      shows t 0x00 0x70 0x0101 3 && decide (t.stored 0xC000 = some 0x0F)) = true := by decide

/-- V43.32, DAA. -/
theorem test_V43_32 : stepTo (bytesAt (flagByte ({ blank with a := 0x20 } : State) 0x10) 0x0100 [0x27]) (fun t =>
      shows t 0x80 0x10 0x0101 1) = true := by decide

/-- V43.31, DAA. -/
theorem test_V43_31 : stepTo (bytesAt (flagByte ({ blank with a := 0x2D } : State) 0x60) 0x0100 [0x27]) (fun t =>
      shows t 0x27 0x40 0x0101 1) = true := by decide

/-- V43.35, CPL. -/
theorem test_V43_35 : stepTo (bytesAt (flagByte ({ blank with a := 0x35 } : State) 0x00) 0x0100 [0x2F]) (fun t =>
      shows t 0xCA 0x60 0x0101 1) = true := by decide

/-- V43.36, SCF. -/
theorem test_V43_36 : stepTo (bytesAt (flagByte blank 0xE0) 0x0100 [0x37]) (fun t =>
      shows t 0x00 0x90 0x0101 1) = true := by decide

/-- V43.37, CCF. -/
theorem test_V43_37 : stepTo (bytesAt (flagByte blank 0x70) 0x0100 [0x3F]) (fun t =>
      shows t 0x00 0x00 0x0101 1) = true := by decide

/-- V44.2, ADD HL,HL. -/
theorem test_V44_2 : stepTo (bytesAt ({ blank with h := 0x8A, l := 0x23 } : State) 0x0100 [0x29]) (fun t =>
      shows t 0x00 0x30 0x0101 2 && decide (t.h = 0x14) && decide (t.l = 0x46)) = true := by decide

/-- V44.3, ADD HL,SP. -/
theorem test_V44_3 : stepTo (bytesAt (flagByte ({ blank with h := 0xFF, l := 0xFF, sp := 0x0001 } : State) 0x00) 0x0100 [0x39]) (fun t =>
      shows t 0x00 0x30 0x0101 2 && decide (t.h = 0x00) && decide (t.l = 0x00)) = true := by decide

/-- V44.5, INC SP. -/
theorem test_V44_5 : stepTo (bytesAt ({ blank with sp := 0xFFFF } : State) 0x0100 [0x33]) (fun t =>
      shows t 0x00 0x00 0x0101 2 && decide (t.sp = 0x0000)) = true := by decide

/-- V44.6, INC DE. -/
theorem test_V44_6 : stepTo (bytesAt (flagByte ({ blank with d := 0x00, e := 0xFF } : State) 0x00) 0x0100 [0x13]) (fun t =>
      shows t 0x00 0x00 0x0101 2 && decide (t.d = 0x01) && decide (t.e = 0x00)) = true := by decide

/-- V44.7, DEC BC. -/
theorem test_V44_7 : stepTo (bytesAt (flagByte ({ blank with b := 0x00, c := 0x00 } : State) 0xF0) 0x0100 [0x0B]) (fun t =>
      shows t 0x00 0xF0 0x0101 2 && decide (t.b = 0xFF) && decide (t.c = 0xFF)) = true := by decide

/-- V44.9, ADD SP,e8. -/
theorem test_V44_9 : stepTo (bytesAt ({ blank with sp := 0x0000 } : State) 0x0100 [0xE8, 0xFF]) (fun t =>
      shows t 0x00 0x00 0x0102 4 && decide (t.sp = 0xFFFF)) = true := by decide

/-- V44.10, ADD SP,e8. -/
theorem test_V44_10 : stepTo (bytesAt (flagByte ({ blank with sp := 0xFFF8 } : State) 0x80) 0x0100 [0xE8, 0x08]) (fun t =>
      shows t 0x00 0x30 0x0102 4 && decide (t.sp = 0x0000)) = true := by decide

/-- V45.1, RLCA. -/
theorem test_V45_1 : stepTo (bytesAt ({ blank with a := 0x85 } : State) 0x0100 [0x07]) (fun t =>
      shows t 0x0B 0x10 0x0101 1) = true := by decide

/-- V45.2, RLCA. -/
theorem test_V45_2 : stepTo (bytesAt (flagByte ({ blank with a := 0x00 } : State) 0x80) 0x0100 [0x07]) (fun t =>
      shows t 0x00 0x00 0x0101 1) = true := by decide

/-- V45.3, RRCA. -/
theorem test_V45_3 : stepTo (bytesAt ({ blank with a := 0x01 } : State) 0x0100 [0x0F]) (fun t =>
      shows t 0x80 0x10 0x0101 1) = true := by decide

/-- V45.4, RLA. -/
theorem test_V45_4 : stepTo (bytesAt (flagByte ({ blank with a := 0x80 } : State) 0x00) 0x0100 [0x17]) (fun t =>
      shows t 0x00 0x10 0x0101 1) = true := by decide

/-- V45.5, RRA. -/
theorem test_V45_5 : stepTo (bytesAt (flagByte ({ blank with a := 0x01 } : State) 0x10) 0x0100 [0x1F]) (fun t =>
      shows t 0x80 0x10 0x0101 1) = true := by decide

/-- V45.6, RLC B. -/
theorem test_V45_6 : stepTo (bytesAt ({ blank with b := 0x80 } : State) 0x0100 [0xCB, 0x00]) (fun t =>
      shows t 0x00 0x10 0x0102 2 && decide (t.b = 0x01)) = true := by decide

/-- V45.7, RLC (HL). -/
theorem test_V45_7 : stepTo (bytesAt (bytesAt ({ blank with h := 0xC0, l := 0x00 } : State) 0x0100 [0xCB, 0x06]) 0xC000 [0x00]) (fun t =>
      shows t 0x00 0x80 0x0102 4) = true := by decide

/-- V45.8, RRC C. -/
theorem test_V45_8 : stepTo (bytesAt ({ blank with c := 0x01 } : State) 0x0100 [0xCB, 0x09]) (fun t =>
      shows t 0x00 0x10 0x0102 2 && decide (t.c = 0x80)) = true := by decide

/-- V45.9, RL D. -/
theorem test_V45_9 : stepTo (bytesAt (flagByte ({ blank with d := 0x80 } : State) 0x00) 0x0100 [0xCB, 0x12]) (fun t =>
      shows t 0x00 0x90 0x0102 2 && decide (t.d = 0x00)) = true := by decide

/-- V45.10, RR E. -/
theorem test_V45_10 : stepTo (bytesAt (flagByte ({ blank with e := 0x01 } : State) 0x10) 0x0100 [0xCB, 0x1B]) (fun t =>
      shows t 0x00 0x10 0x0102 2 && decide (t.e = 0x80)) = true := by decide

/-- V45.11, SLA H. -/
theorem test_V45_11 : stepTo (bytesAt ({ blank with h := 0xFF } : State) 0x0100 [0xCB, 0x24]) (fun t =>
      shows t 0x00 0x10 0x0102 2 && decide (t.h = 0xFE)) = true := by decide

/-- V45.12, SRA L. -/
theorem test_V45_12 : stepTo (bytesAt ({ blank with l := 0x81 } : State) 0x0100 [0xCB, 0x2D]) (fun t =>
      shows t 0x00 0x10 0x0102 2 && decide (t.l = 0xC0)) = true := by decide

/-- V45.13, SRA (HL). -/
theorem test_V45_13 : stepTo (bytesAt (bytesAt ({ blank with h := 0xC0, l := 0x00 } : State) 0x0100 [0xCB, 0x2E]) 0xC000 [0x01]) (fun t =>
      shows t 0x00 0x90 0x0102 4 && decide (t.stored 0xC000 = some 0x00)) = true := by decide

/-- V45.14, SWAP A. -/
theorem test_V45_14 : stepTo (bytesAt (flagByte ({ blank with a := 0xF0 } : State) 0x10) 0x0100 [0xCB, 0x37]) (fun t =>
      shows t 0x0F 0x00 0x0102 2) = true := by decide

/-- V45.16, SRL A. -/
theorem test_V45_16 : stepTo (bytesAt ({ blank with a := 0x01 } : State) 0x0100 [0xCB, 0x3F]) (fun t =>
      shows t 0x00 0x90 0x0102 2) = true := by decide

/-- V45.17, SRL (HL). -/
theorem test_V45_17 : stepTo (bytesAt (bytesAt ({ blank with h := 0xC0, l := 0x00 } : State) 0x0100 [0xCB, 0x3E]) 0xC000 [0x80]) (fun t =>
      shows t 0x00 0x00 0x0102 4 && decide (t.stored 0xC000 = some 0x40)) = true := by decide

/-- V45.18, BIT 7,H. -/
theorem test_V45_18 : stepTo (bytesAt (flagByte ({ blank with h := 0x7F } : State) 0x10) 0x0100 [0xCB, 0x7C]) (fun t =>
      shows t 0x00 0xB0 0x0102 2) = true := by decide

/-- V45.20, BIT 3,(HL). -/
theorem test_V45_20 : stepTo (bytesAt (bytesAt ({ blank with h := 0xC0, l := 0x00 } : State) 0x0100 [0xCB, 0x5E]) 0xC000 [0x08]) (fun t =>
      shows t 0x00 0x20 0x0102 3) = true := by decide

/-- V45.21, RES 7,A. -/
theorem test_V45_21 : stepTo (bytesAt (flagByte ({ blank with a := 0xFF } : State) 0xF0) 0x0100 [0xCB, 0xBF]) (fun t =>
      shows t 0x7F 0xF0 0x0102 2) = true := by decide

/-- V45.22, RES 0,(HL). -/
theorem test_V45_22 : stepTo (bytesAt (bytesAt ({ blank with h := 0xC0, l := 0x00 } : State) 0x0100 [0xCB, 0x86]) 0xC000 [0x01]) (fun t =>
      shows t 0x00 0x00 0x0102 4 && decide (t.stored 0xC000 = some 0x00)) = true := by decide

/-- V45.23, SET 4,C. -/
theorem test_V45_23 : stepTo (bytesAt ({ blank with c := 0x00 } : State) 0x0100 [0xCB, 0xE1]) (fun t =>
      shows t 0x00 0x00 0x0102 2 && decide (t.c = 0x10)) = true := by decide

/-- V45.24, SET 7,(HL). -/
theorem test_V45_24 : stepTo (bytesAt (bytesAt ({ blank with h := 0xC0, l := 0x00 } : State) 0x0100 [0xCB, 0xFE]) 0xC000 [0x00]) (fun t =>
      shows t 0x00 0x00 0x0102 4 && decide (t.stored 0xC000 = some 0x80)) = true := by decide

/-- V46.1, JP a16. -/
theorem test_V46_1 : stepTo (bytesAt blank 0x0100 [0xC3, 0x50, 0x01]) (fun t =>
      shows t 0x00 0x00 0x0150 4) = true := by decide

/-- V46.2, JP NZ,a16 (taken). -/
theorem test_V46_2 : stepTo (bytesAt (flagByte blank 0x00) 0x0100 [0xC2, 0x00, 0x02]) (fun t =>
      shows t 0x00 0x00 0x0200 4) = true := by decide

/-- V46.3, JP NZ,a16 (not taken). -/
theorem test_V46_3 : stepTo (bytesAt (flagByte blank 0x80) 0x0100 [0xC2, 0x00, 0x02]) (fun t =>
      shows t 0x00 0x80 0x0103 3) = true := by decide

/-- V46.5, JP HL. -/
theorem test_V46_5 : stepTo (bytesAt ({ blank with h := 0x12, l := 0x34 } : State) 0x0100 [0xE9]) (fun t =>
      shows t 0x00 0x00 0x1234 1) = true := by decide

/-- V46.7, JR e8. -/
theorem test_V46_7 : stepTo (bytesAt blank 0x0100 [0x18, 0xFE]) (fun t =>
      shows t 0x00 0x00 0x0100 3) = true := by decide

/-- V46.8, JR e8. -/
theorem test_V46_8 : stepTo (bytesAt blank 0x0100 [0x18, 0x80]) (fun t =>
      shows t 0x00 0x00 0x0082 3) = true := by decide

/-- V46.9, JR Z,e8 (taken). -/
theorem test_V46_9 : stepTo (bytesAt (flagByte blank 0x80) 0x0100 [0x28, 0x10]) (fun t =>
      shows t 0x00 0x80 0x0112 3) = true := by decide

/-- V46.10, JR Z,e8 (not taken). -/
theorem test_V46_10 : stepTo (bytesAt (flagByte blank 0x00) 0x0100 [0x28, 0x10]) (fun t =>
      shows t 0x00 0x00 0x0102 2) = true := by decide

/-- V46.12, CALL a16. -/
theorem test_V46_12 : stepTo (bytesAt blank 0x0100 [0xCD, 0x00, 0x20]) (fun t =>
      shows t 0x00 0x00 0x2000 6 &&
      decide (t.sp = 0xFFFC) &&
      decide (t.stored 0xFFFC = some 0x03) &&
      decide (t.stored 0xFFFD = some 0x01)) = true := by decide

/-- V46.13, CALL NC,a16 (not taken). -/
theorem test_V46_13 : stepTo (bytesAt (flagByte blank 0x10) 0x0100 [0xD4, 0x00, 0x20]) (fun t =>
      shows t 0x00 0x10 0x0103 3) = true := by decide

/-- V46.14, CALL Z,a16 (taken). -/
theorem test_V46_14 : stepTo (bytesAt (flagByte blank 0x80) 0x0100 [0xCC, 0x00, 0x20]) (fun t =>
      shows t 0x00 0x80 0x2000 6 &&
      decide (t.sp = 0xFFFC) &&
      decide (t.stored 0xFFFC = some 0x03) &&
      decide (t.stored 0xFFFD = some 0x01)) = true := by decide

/-- V46.15, RET. -/
theorem test_V46_15 : stepTo (bytesAt (bytesAt (bytesAt ({ blank with sp := 0xC000 } : State) 0x0100 [0xC9]) 0xC000 [0x34]) 0xC001 [0x12]) (fun t =>
      shows t 0x00 0x00 0x1234 4 && decide (t.sp = 0xC002)) = true := by decide

/-- V46.16, RET NZ (not taken). -/
theorem test_V46_16 : stepTo (bytesAt (flagByte blank 0x80) 0x0100 [0xC0]) (fun t =>
      shows t 0x00 0x80 0x0101 2) = true := by decide

/-- V46.17, RET C (taken). -/
theorem test_V46_17 : stepTo (bytesAt (bytesAt (bytesAt (flagByte ({ blank with sp := 0xC000 } : State) 0x10) 0x0100 [0xD8]) 0xC000 [0x00]) 0xC001 [0x03]) (fun t =>
      shows t 0x00 0x10 0x0300 5 && decide (t.sp = 0xC002)) = true := by decide

/-- V46.18, RETI. -/
theorem test_V46_18 : stepTo (bytesAt (bytesAt (bytesAt ({ blank with sp := 0xC000, ime := false } : State) 0x0100 [0xD9]) 0xC000 [0x03]) 0xC001 [0x01]) (fun t =>
      shows t 0x00 0x00 0x0103 4 && decide (t.sp = 0xC002) && t.ime) = true := by decide

/-- V46.19, RST 0x38. -/
theorem test_V46_19 : stepTo (bytesAt blank 0x0100 [0xFF]) (fun t =>
      shows t 0x00 0x00 0x0038 4 &&
      decide (t.sp = 0xFFFC) &&
      decide (t.stored 0xFFFC = some 0x01) &&
      decide (t.stored 0xFFFD = some 0x01)) = true := by decide

/-- V47.1, NOP. -/
theorem test_V47_1 : stepTo (bytesAt blank 0x0100 [0x00]) (fun t =>
      shows t 0x00 0x00 0x0101 1) = true := by decide

/-- V47.2, HALT (IME=1, none pending). -/
theorem test_V47_2 : stepTo (bytesAt ({ blank with ime := true } : State) 0x0100 [0x76]) (fun t =>
      shows t 0x00 0x00 0x0101 1 && t.ime && t.halted) = true := by decide

/-- V47.5, DI. -/
theorem test_V47_5 : stepTo (bytesAt ({ blank with ime := true } : State) 0x0100 [0xF3]) (fun t =>
      shows t 0x00 0x00 0x0101 1 && !t.ime) = true := by decide

/-- V47.6, EI. -/
theorem test_V47_6 : stepTo (bytesAt ({ blank with ime := false } : State) 0x0100 [0xFB]) (fun t =>
      shows t 0x00 0x00 0x0101 1 && !t.ime && t.imeSched) = true := by decide

/-! ### Stops, the engine, reset and load -/

/-- V47.3: the HALT bug is refused, pc past the opcode. -/
theorem test_V47_3 : step { bytesAt blank 0x0100 [0x76] with irq := some .timer } =
    .refused (.haltBug { bytesAt blank 0x0100 [0x76] with
      irq := some .timer, pc := 0x0101, status := .refused .haltBug }) := rfl

/-- V47.4: STOP is refused, its second byte not fetched. -/
theorem test_V47_4 : step (bytesAt blank 0x0100 [0x10, 0x00]) =
    .refused (.stop { bytesAt blank 0x0100 [0x10, 0x00] with pc := 0x0101, status := .refused .stop }) := rfl

/-- V40.2: a DecodeFailure names the opcode and its address. -/
theorem test_V40_2 : step (bytesAt blank 0x0100 [0xD3]) =
    .fault (.decodeFailure 0xD3 0x0100 { bytesAt blank 0x0100 [0xD3] with
      pc := 0x0101, status := .faulted (.decodeFailure 0xD3 0x0100) }) := rfl

/-- V60.1: an entry pushes pc, records the acknowledgement and costs 5. -/
theorem test_V60_1 : stepTo { blank with pc := 0x1234, sp := 0xD000, ime := true, irq := some .timer } (fun t =>
    shows t 0x00 0x00 0x0050 5 && !t.ime && !t.imeSched && decide (t.sp = 0xCFFE) &&
      decide (t.stored 0xCFFF = some 0x12) && decide (t.stored 0xCFFE = some 0x34) &&
      decide (t.events = [.ack 0x0050 0])) = true := by decide

/-- V60.2: a halted core wakes and enters in one step. -/
theorem test_V60_2 :
    stepTo { blank with sp := 0xC100, ime := true, halted := true, irq := some .joypad } (fun t =>
      shows t 0x00 0x00 0x0060 5 && !t.halted && !t.ime && decide (t.sp = 0xC0FE) &&
        decide (t.stored 0xC0FF = some 0x01) && decide (t.stored 0xC0FE = some 0x00)) = true := by decide

/-- V60.3: with IME = 0 a halted core wakes and runs the next instruction. -/
theorem test_V60_3 :
    stepTo { bytesAt blank 0x0100 [0x00] with halted := true, irq := some .lcdStat } (fun t =>
      shows t 0x00 0x00 0x0101 1 && !t.halted && decide (t.events = [])) = true := by decide

/-- R1201: a DecodeFailure of a waking step leaves all but `halted`, which is free, as the rule says. -/
theorem test_wake_decodeFailure :
    step { bytesAt blank 0x0100 [0xD3] with halted := true, irq := some .timer } =
      .fault (.decodeFailure 0xD3 0x0100 { bytesAt blank 0x0100 [0xD3] with
        halted := Config.haltedAtFailure 0, irq := some .timer, pc := 0x0101,
        status := .faulted (.decodeFailure 0xD3 0x0100) }) :=
  rfl

/-- V60.6 and V60.5: the entry whose push would write IE is refused. -/
theorem test_V60_6 : step { blank with sp := 0x0000, ime := true, irq := some .vblank } =
    .refused (.dispatchPushToIE { blank with
      sp := 0x0000, ime := true, irq := some .vblank, status := .refused .dispatchPushToIE }) := rfl

/-- V60.9, second tick: the instruction after EI ends with IME = 1. -/
theorem test_V60_9 :
    stepTo { bytesAt blank 0x0100 [0xFB, 0x00, 0x00] with pc := 0x0101, imeSched := true, irq := some .timer }
      (fun t => shows t 0x00 0x00 0x0102 1 && t.ime && !t.imeSched) = true := by decide

/-- V60.10, second tick: DI after EI leaves IME = 0. -/
theorem test_V60_10 :
    stepTo { bytesAt blank 0x0100 [0xFB, 0xF3, 0x00] with pc := 0x0101, imeSched := true } (fun t =>
      shows t 0x00 0x00 0x0102 1 && !t.ime && !t.imeSched) = true := by decide

/-- V70.2: under power_on a read of B faults and A is not written. -/
theorem test_V70_2 : step (bytesAt State.resetPowerOn 0x0000 [0x78]) =
    .fault (.uninitialisedRead .b { bytesAt State.resetPowerOn 0x0000 [0x78] with
      pc := 0x0001, status := .faulted (.uninitialisedRead .b) }) := rfl

/-- V70.7: H written, L not: `LD A,(HL)` faults with L. -/
theorem test_V70_7 :
    exec .ldAMemHL (State.resetPowerOn.setReg8 .h 0xC0) =
      .fault (.uninitialisedRead .l ((State.resetPowerOn.setReg8 .h 0xC0).faulted (.uninitialisedRead .l))) := rfl

/-- V70.9: a write to 0xFF46 opens the window in the same tick, which then counts down. -/
theorem test_V70_9 : stepTo (bytesAt { blank with a := 0xC1 } 0x0100 [0xE0, 0x46, 0x00]) (fun t =>
    decide (t.dmaWindow = 160) && decide (t.events = [.ioWrite 0xFF46 0xC1 0])) = true := by decide

/-- V70.9, tick 3: the fetch outside HRAM is refused. -/
theorem test_V70_9_fetch : step { bytesAt blank 0x0100 [0x00] with dmaWindow := 158 } =
    .refused (.dmaBusConflict { bytesAt blank 0x0100 [0x00] with
      dmaWindow := 158, status := .refused .dmaBusConflict }) := rfl

/-- V70.15: two bytes at 0x7FFF are rejected, one is accepted. -/
theorem test_V70_15 : State.reset.loadProgram [0x00, 0x00] 0x7FFF = none := by decide
/-- R1310, R433: after a first tick that ended the session there is no `load_program`, although the tick
did not count. -/
theorem test_load_after_end : State.loadProgram { State.reset with status := .refused .stop } [0x12] 0 = none := by
  decide
theorem test_load_last : (State.reset.loadProgram [0x12] 0x7FFF).isSome = true := by decide

/-- W3, tick 1: a tick that owes ticks counts down. -/
theorem test_W3 : stepTo { blank with remaining := 1 } (fun t => shows t 0x00 0x00 0x0100 1) = true := by decide

/-- V70.13: the run ends at the boundary of tick 2, pc = 0x0102. -/
theorem test_V70_13 :
    ((bytesAt blank 0x0100 [0x00, 0x00, 0x18, 0xFE]).endState 0x0102 9).map
      (fun t => shows t 0x00 0x00 0x0102 1 && decide (t.tick = 2)) = some true := by decide
/-- V70.14, first tick: halted at END_PC is no end. -/
theorem test_V70_14 : (bytesAt blank 0x0100 [0x76]).endState 0x0101 1 = none := by decide
/-- R1340: a run that faults on the way has no end. -/
theorem test_endState_fault : (bytesAt blank 0x0100 [0xD3]).endState 0x0101 9 = none := by decide

/-- A table word placed with `withFetchWord` is what the first step after reset runs. -/
theorem test_withFetchWord : stepTo (State.reset.withFetchWord 8 0x3E) (fun t =>
    decide (t.a = 0x00) && decide (t.pc = 0x0102)) = true := by decide
theorem test_withFetchWord_halt : stepTo (State.reset.withFetchWord 8 0x76) (fun t =>
    t.halted && decide (t.pc = 0x0101)) = true := by decide
theorem test_withFetchWord_extended : stepTo (State.reset.withFetchWord 16 0xCB37) (fun t =>
    decide (t.a = 0x10) && decide (t.pc = 0x0102)) = true := by decide

/-! ### States that meet the hypotheses of the obligations -/

/-- At reset every slot holds a value and the bus admits every access. -/
theorem reset_holds (names : List RegName) : State.reset.Holds names := fun _ _ h => by cases h
theorem reset_admits (a : Word) : State.reset.Admits a := rfl

/-- In the DMA window the bus admits HRAM, from its first to its last address, and nothing beside it. -/
theorem witness_window : (State.Admits { State.reset with dmaWindow := 161 } 0xFF80 ∧
    State.Admits { State.reset with dmaWindow := 1 } 0xFFFE) ∧
    ¬State.Admits { State.reset with dmaWindow := 1 } 0xFF7F := by decide

theorem witness_LoadRegisterFromRegister : State.reset.Holds [regName .b] := reset_holds _
theorem witness_LoadThroughHL : State.reset.Holds [regName .a, .h, .l] ∧
    State.reset.Admits (State.reset.reg16 .hl) := ⟨reset_holds _, reset_admits _⟩
theorem witness_LoadAccumulatorIndirect : State.reset.Holds [.a, .b, .c, .d, .e] ∧
    State.reset.Admits (State.reset.reg16 .bc) ∧ State.reset.Admits (State.reset.reg16 .de) ∧
    State.reset.Admits 0x0000 ∧ State.reset.Admits 0xFFFF :=
  ⟨reset_holds _, rfl, rfl, rfl, rfl⟩
theorem witness_LoadAndStepHL : State.Holds { State.reset with h := 0xFF, l := 0xFF } [.a, .h, .l] ∧
    State.Admits { State.reset with h := 0xFF, l := 0xFF } 0xFFFF := ⟨reset_holds _, rfl⟩
theorem witness_LoadHighPage : State.reset.Holds [.a, .c] ∧ State.reset.Admits (highPage 0x00) ∧
    State.reset.Admits (highPage 0xFF) ∧ State.reset.Admits (highPage State.reset.c) :=
  ⟨reset_holds _, rfl, rfl, rfl⟩
theorem witness_StoreSP : State.reset.Holds [.sp] ∧ State.reset.Store16Ready 0xFF45 ∧
    State.reset.Store16Ready 0xFF47 ∧ State.reset.Store16Ready 0xFFFF ∧ State.reset.Admits 0xFF46 :=
  ⟨reset_holds _, by decide, by decide, by decide, rfl⟩
theorem witness_StackPointerOffset : State.reset.Holds [.sp] := reset_holds _
theorem witness_PushReady : State.reset.PushReady ∧ State.PushReady { State.reset with sp := 0xFF46 } ∧
    State.PushReady { State.reset with sp := 0xFF48 } ∧ State.PushReady { State.reset with sp := 0x0000 } :=
  ⟨⟨reset_holds _, by decide⟩, ⟨reset_holds _, by decide⟩, ⟨reset_holds _, by decide⟩,
    ⟨reset_holds _, by decide⟩⟩
theorem witness_PopReady : State.reset.PopReady ∧ State.PopReady { State.reset with sp := 0xFFFF } :=
  ⟨⟨reset_holds _, by decide⟩, ⟨reset_holds _, by decide⟩⟩
theorem witness_PushThenPop : State.reset.Holds (.sp :: reg16Names RP2.af.reg16) ∧ State.reset.dmaWindow = 0 ∧
    isRam (State.reset.sp - 1) = true ∧ isRam (State.reset.sp - 2) = true :=
  ⟨reset_holds _, by decide, by decide, by decide⟩
theorem witness_Alu : State.reset.Holds [regName .b, .a] ∧ State.reset.Holds [.h, .l, .a] ∧
    State.reset.Holds [.fc] ∧ usesCarry .adc = true ∧ usesCarry .cp = false :=
  ⟨reset_holds _, reset_holds _, reset_holds _, rfl, rfl⟩
theorem witness_DecimalAdjust : State.reset.Holds [.a, .fn, .fh, .fc] ∧ State.reset.flags.n = false ∧
    State.Holds { State.reset with flags := ⟨false, true, false, false⟩ } [.a, .fn, .fh, .fc] :=
  ⟨reset_holds _, rfl, reset_holds _⟩
theorem witness_DecimalAddition : State.Holds { State.reset with a := 0x99, b := 0x99 } [.a, regName .b] ∧
    (State.a { State.reset with a := 0x99, b := 0x99 }).toNat = 99 / 10 * 16 + 99 % 10 ∧
    (State.reg8 { State.reset with a := 0x99, b := 0x99 } .b).toNat = 99 / 10 * 16 + 99 % 10 :=
  ⟨reset_holds _, by decide, by decide⟩
theorem witness_ComplementAndCarry : State.reset.Holds [.a] ∧ State.reset.Holds [.fc] :=
  ⟨reset_holds _, reset_holds _⟩
theorem witness_PairArithmetic : State.reset.Holds (reg16Names RP.sp.reg16) ∧ State.reset.Holds [.h, .l] :=
  ⟨reset_holds _, reset_holds _⟩
theorem witness_Rotates : State.reset.Holds [.a, .fc] ∧ State.reset.Holds [regName .e] ∧
    rotUsesCarry .rl = true ∧ rotUsesCarry .rlc = false := ⟨reset_holds _, reset_holds _, rfl, rfl⟩
theorem witness_Bits : State.reset.Holds [regName .d] ∧ State.reset.Holds [.h, .l] ∧
    State.reset.Admits (State.reset.reg16 .hl) := ⟨reset_holds _, reset_holds _, rfl⟩
theorem witness_Conditions : State.reset.Holds (condNames .z) ∧ condOf .z State.reset.flags = true ∧
    condOf .nz State.reset.flags = false ∧ State.reset.Holds (condNames .nc) ∧
    condOf .c State.reset.flags = true ∧ condOf .nc State.reset.flags = false :=
  ⟨reset_holds _, rfl, rfl, reset_holds _, rfl, rfl⟩
theorem witness_HaltOrRefuse : (State.ime { State.reset with irq := none } = false ∧
      State.irq { State.reset with irq := none } = none) ∧
    (State.ime { State.reset with irq := some .timer } = false ∧
      State.irq { State.reset with irq := some .timer } ≠ none) := by decide
theorem witness_SessionEnding : (0xD3 : Byte) ∈ unassignedOpcodes ∧ (0xFD : Byte) ∈ unassignedOpcodes := by
  decide
theorem witness_PrefixRunsExtended : State.reset.AllWritten ∧ State.reset.dmaWindow = 0 := by decide
theorem witness_UnwrittenReadFaults : RegName.b ∈ State.resetPowerOn.unwritten ∧ regName .b = .b ∧
    (RegName.l ∈ (State.resetPowerOn.setReg8 .h 0x00).unwritten ∧ reg16Names .hl = [.h] ++ .l :: [] ∧
      (State.resetPowerOn.setReg8 .h 0x00).Holds [.h]) ∧
    RegName.sp ∈ State.resetPowerOn.unwritten ∧ (RegName.fc ∈ State.resetPowerOn.unwritten ∧
      condNames .nc = [.fc]) := by
  refine ⟨by decide, rfl, ⟨by decide, rfl, ?_⟩, by decide, by decide, rfl⟩
  unfold State.Holds
  decide
theorem witness_Regions : (region 0x0000 = .rom ∧ region 0x7FFF = .rom) ∧
    (region 0x8000 = .vram ∧ region 0x9FFF = .vram) ∧ (region 0xA000 = .cartRam ∧ region 0xBFFF = .cartRam) ∧
    (region 0xC000 = .wram ∧ region 0xDFFF = .wram) ∧ (region 0xE000 = .echo ∧ region 0xFDFF = .echo) ∧
    (region 0xFE00 = .oam ∧ region 0xFE9F = .oam) ∧ (region 0xFEA0 = .unusable ∧ region 0xFEFF = .unusable) ∧
    (region 0xFF00 = .io ∧ region 0xFF7F = .io) ∧ (region 0xFF80 = .hram ∧ region 0xFFFE = .hram) ∧
    region 0xFFFF = .ie := by decide
theorem witness_RegionPolicies : State.stored State.reset 0xC000 = none ∧ (isRam 0xC000 = true ∧ isRam 0xFDFF = true ∧ isRam 0xFF80 = true) ∧
    cellOf 0xC001 ≠ cellOf 0xC000 ∧ State.stored (bytesAt State.reset 0x0000 [0x12]) 0x0000 = some 0x12 := by
  decide
theorem witness_LittleEndianWords : State.reset.dmaWindow = 0 ∧
    (isRam 0xC000 = true ∧ isRam (0xC000 + 1) = true) ∧ (isRam 0xDFFF = true ∧ isRam (0xDFFF + 1) = true) ∧
    (isRam 0xFFFD = true ∧ isRam (0xFFFD + 1) = true) := by decide
theorem witness_DmaWindowRefuses :
    State.AllWritten { State.reset with dmaWindow := 1 } ∧
    firstAccess .ldAMemHL { State.reset with dmaWindow := 1 } = some 0x014D ∧ region 0x014D ≠ .hram ∧
    firstAccess .pushBC { State.reset with dmaWindow := 1, sp := 0xC001 } = some 0xC000 ∧
    region 0xC000 ≠ .hram := by decide
theorem witness_DmaWindowRefuses_access : 0 < State.dmaWindow { State.reset with dmaWindow := 1 } ∧
    (region 0xFF7F ≠ .hram ∧ region 0xFFFF ≠ .hram) ∧
    region (State.pc { State.reset with dmaWindow := 1 }) ≠ .hram ∧
    State.RunsInstruction { State.reset with dmaWindow := 1 } := by decide
theorem witness_DmaWindowRefuses_second :
    (firstAccess .popBC { State.reset with dmaWindow := 161 } = some 0xFFFE ∧
      secondAccess .popBC { State.reset with dmaWindow := 161 } = some 0xFFFF ∧
      State.Admits { State.reset with dmaWindow := 161 } 0xFFFE ∧ region 0xFFFF ≠ .hram) ∧
    (firstAccess .rst38 { State.reset with sp := 0xFF47 } = some 0xFF46 ∧
      secondAccess .rst38 { State.reset with sp := 0xFF47 } = some 0xFF45 ∧ region 0xFF45 ≠ .hram ∧
      pops .rst38 State.reset.flags = false) := by decide

/-- The frames: an instruction that answers next, one that stores, and one that does not. -/
theorem witness_Frames : Instr.nop.wf = true ∧ exec .nop State.reset = .next (State.reset.owing 0) ∧
    exec .pushBC State.reset = .next ((State.reset.afterPush 0x0013).owing 3) ∧
    storedAddrs .pushBC State.reset = [0xFFFD, 0xFFFC] ∧ cellOf 0xFFFD ≠ cellOf 0xC000 ∧
    Reg8.b ∉ writtenRegs .nop ∧ writesPc .nop = false :=
  ⟨rfl, rfl, rfl, rfl, by decide, by decide, rfl⟩

/-- `LD A,0x42` at pc. -/
def loads : State := bytesAt State.reset 0x0100 [0x3E, 0x42]

theorem witness_StepRunsDecoded : loads.RunsInstruction ∧
    fetchBytes (fetchLength (.ldAN8 0x42)) loads = .next ([0x3E, 0x42], loads.setPc 0x0102) ∧
    decode ([0x3E, 0x42] ++ []) = .ok (.ldAN8 0x42, []) ∧ loads.Holds (sourcesBefore (.ldAN8 0x42)) :=
  ⟨by decide, rfl, rfl, reset_holds _⟩
theorem witness_StepRunsDecoded_stop :
    fetchBytes (fetchLength .stop) (bytesAt State.reset 0x0100 [0x10]) =
      .next ([0x10], (bytesAt State.reset 0x0100 [0x10]).setPc 0x0101) ∧
    decode ([0x10] ++ [0x00]) = .ok (.stop, []) := ⟨rfl, rfl⟩
theorem witness_FetchReadsStored : loads.dmaWindow = 0 ∧ loads.PlainByte (loads.pc + BitVec.ofNat 16 0) 0x3E ∧
    loads.PlainByte (loads.pc + BitVec.ofNat 16 1) 0x42 := by decide
theorem witness_IdleTickCountsDown : State.status { State.reset with remaining := 5 } = .running ∧
    State.remaining { State.reset with remaining := 5 } = 4 + 1 := by decide
theorem witness_InterruptEntryTaken :
    (State.PushReady { State.reset with ime := true, irq := some .timer, halted := true, sp := 0x0002 } ∧
      State.Holds { State.reset with ime := true, irq := some .timer } [.sp]) ∧
    State.Holds { State.reset with ime := true, irq := some .timer, sp := 0x0001 } [.sp] :=
  ⟨⟨⟨reset_holds _, by decide⟩, reset_holds _⟩, reset_holds _⟩

/-- A boundary that enters an interrupt, with SP and the DMA window as given. -/
def entering (sp : Word) (window : Nat) : State :=
  { State.reset with ime := true, irq := some .timer, sp := sp, dmaWindow := window }

/-- The pushes the window refuses: the first byte, the second, and the second behind a first that opens
the window. -/
theorem witness_InterruptEntryTaken_window (sp : Word) (window : Nat) :
    (entering sp window).status = .running ∧ (entering sp window).remaining = 0 ∧
      (entering sp window).ime = true ∧ (entering sp window).irq = some .timer ∧
      (entering sp window).Holds [.sp] := ⟨rfl, rfl, rfl, rfl, reset_holds _⟩
theorem witness_InterruptEntryTaken_refused :
    (0 < (entering 0xFF80 1).dmaWindow ∧ region ((entering 0xFF80 1).sp - 1) ≠ .hram) ∧
    ((entering 0xFF81 1).Admits ((entering 0xFF81 1).sp - 1) ∧
      region ((entering 0xFF81 1).sp - 2) ≠ .hram) ∧
    ((entering 0xFF47 0).Admits ((entering 0xFF47 0).sp - 1) ∧ (entering 0xFF47 0).sp = 0xFF47) := by decide
theorem witness_HaltedWaitAndWake : State.remaining { State.reset with halted := true } = 0 ∧
    State.irq { State.reset with halted := true, irq := none } = none ∧
    State.irq { State.reset with halted := true, irq := some .vblank } ≠ none := by decide

/-- EI's delay: the fetch and the step of a `NOP`, with `ime_sched` = 1 and with 0. -/
def noOperation (sched : Bool) : State := { bytesAt State.reset 0x0100 [0x00] with imeSched := sched }

theorem witness_EiTakesEffectLate (sched : Bool) :
    (noOperation sched).RunsInstruction ∧ (noOperation sched).ime = false ∧
      (noOperation sched).imeSched = sched ∧
      fetch8 (noOperation sched) = .next (0x00, (noOperation sched).setPc 0x0101) ∧
      stepTo (noOperation sched) (fun _ => true) = true := by
  cases sched <;> exact ⟨by decide, rfl, rfl, rfl, by decide⟩
theorem witness_EndedSessionsStay : State.status { State.reset with status := .refused .stop } ≠ .running := by
  decide
theorem witness_DecodeOfEncode : (Instr.ldSPN16 0xFFFF).wf = true ∧ (Instr.bit7A).wf = true := by decide
theorem witness_DecodeOnlyEncodings : decode [0xCB, 0xFF, 0x00] = .ok (.set7A, [0x00]) := rfl
theorem witness_LoadProgramWritesRom : (State.reset.BeforeFirstTick ∧ 0x7FFF + [(0x12 : Byte)].length ≤ 0x8000) ∧
    (0x7FFF#16).toNat = 0x7FFF + 0 ∧ cellOf 0x7FFE < 0x7FFF ∧ 0x7FFF + [(0x12 : Byte)].length ≤ cellOf 0x8000 := by
  decide
theorem witness_InvariantKept : loads.Inv ∧ stepTo loads (fun _ => true) = true := by decide
theorem witness_WrittenStaysWritten : RegName.a ∉ loads.unwritten ∧ loads.AllWritten := by decide

end Sys2Proof.Tests
end

section
/-! The 8-bit loads (R500 to R506, R511 to R516). A load makes at most one bus access, so it is one of three
kinds: it copies into a register without the bus, it reads the bus into a register, or it writes the bus
from a register or an immediate. -/
namespace Sys2Proof.Machine

open Sys2Proof

variable {s : State} {src : Src8} {tgt : Tgt8} {r : Reg8} {a : Word} {cost : Nat}

/-! ### Slots -/

theorem holds_cons {n : RegName} {ns : List RegName} : s.Holds (n :: ns) ↔ s.Holds [n] ∧ s.Holds ns := by
  simp [State.Holds]

/-! ### A source or target form by the address it accesses -/

theorem State.afterSrc_of_srcAddr_none (h : srcAddr src s = none) : s.afterSrc src = s := by
  simp only [State.afterSrc, h]

theorem State.afterSrc_of_srcAddr_some (h : srcAddr src s = some a) : s.afterSrc src = s.afterRead a := by
  simp only [State.afterSrc, h]

theorem State.srcVal_of_srcAddr_some (h : srcAddr src s = some a) : s.srcVal src = s.readVal a := by
  cases src <;> cases h <;> rfl

theorem State.afterTgt_of_tgtAddr_some (h : tgtAddr tgt s = some a) (v : Byte) :
    s.afterTgt tgt v = s.afterWrite a v := by
  cases tgt <;> cases h <;> rfl

/-! ### The three kinds of load -/

theorem load8_intoReg (hs : s.Holds (srcNames src)) (hsrc : srcAddr src s = none) :
    load8 src (.reg r) cost s = .next ((s.setReg8 r (s.srcVal src)).owing (cost - 1)) := by
  refine load8_next.2 ⟨hs, ?_, holds_nil s, admitsOpt_none s, ?_⟩
  · rw [hsrc]; exact admitsOpt_none s
  · rw [State.afterSrc_of_srcAddr_none hsrc]; rfl

theorem load8_readBus (hs : s.Holds (srcNames src)) (hsrc : srcAddr src s = some a) (ha : s.Admits a) :
    load8 src (.reg r) cost s = .next (((s.afterRead a).setReg8 r (s.readVal a)).owing (cost - 1)) := by
  refine load8_next.2 ⟨hs, ?_, holds_nil s, admitsOpt_none s, ?_⟩
  · rw [hsrc]; exact (admitsOpt_some s a).2 ha
  · rw [State.afterSrc_of_srcAddr_some hsrc, State.srcVal_of_srcAddr_some hsrc]; rfl

theorem load8_writeBus (hs : s.Holds (srcNames src)) (hsrc : srcAddr src s = none)
    (ht : s.Holds (tgtNames tgt)) (htgt : tgtAddr tgt s = some a) (ha : s.Admits a) :
    load8 src tgt cost s = .next ((s.afterWrite a (s.srcVal src)).owing (cost - 1)) := by
  refine load8_next.2 ⟨hs, ?_, ht, ?_, ?_⟩
  · rw [hsrc]; exact admitsOpt_none s
  · rw [htgt]; exact (admitsOpt_some s a).2 ha
  · rw [State.afterSrc_of_srcAddr_none hsrc, State.afterTgt_of_tgtAddr_some htgt]

/-! ### Encodings and rows of the forms -/

theorem encode_ldRegReg (dst src : Reg8) : encode (ldRegReg dst src) = [opByte 1 dst.code src.code] := by
  cases dst <;> cases src <;> rfl
theorem tableRow_ldRegReg (dst src : Reg8) :
    tableRow (ldRegReg dst src) = row [.reg src.any] [.reg dst.any] 1 1 := by
  cases dst <;> cases src <;> rfl

theorem encode_ldRegN8 (dst : Reg8) (n : Byte) : encode (ldRegN8 dst n) = [opByte 0 dst.code 6, n] := by
  cases dst <;> rfl
theorem tableRow_ldRegN8 (dst : Reg8) (n : Byte) :
    tableRow (ldRegN8 dst n) = row [.imm8] [.reg dst.any] 2 2 := by
  cases dst <;> rfl

theorem encode_ldRegMem (r : Reg8) : encode (ldRegMem r) = [opByte 1 r.code 6] := by cases r <;> rfl
theorem tableRow_ldRegMem (r : Reg8) : tableRow (ldRegMem r) = row [.ind .hl] [.reg r.any] 1 2 := by
  cases r <;> rfl

theorem encode_ldMemReg (r : Reg8) : encode (ldMemReg r) = [opByte 1 6 r.code] := by cases r <;> rfl
theorem tableRow_ldMemReg (r : Reg8) : tableRow (ldMemReg r) = row [.reg r.any] [.ind .hl] 1 2 := by
  cases r <;> rfl

/-- The high page starts at 0xFF00 and a byte fits in it, so the sum has no carry (R322). -/
theorem highPage_toNat (n : Byte) : (highPage n).toNat = 0xFF00 + n.toNat := by
  unfold highPage
  bv_omega

/-! ### The statements -/

/-- Settles O1: the load of a register into a register, which makes no bus access. -/
theorem loadRegisterFromRegister : Obligations.LoadRegisterFromRegister := by
  intro dst src s
  refine ⟨encode_ldRegReg dst src, tableRow_ldRegReg dst src, fun hs => ?_⟩
  rw [exec_ldRegReg]
  exact load8_intoReg (src := .reg src) hs rfl

/-- Settles O2: the load of an immediate into a register, which reads no slot and makes no bus access. -/
theorem loadRegisterImmediate : Obligations.LoadRegisterImmediate := by
  intro dst n s
  refine ⟨encode_ldRegN8 dst n, tableRow_ldRegN8 dst n, ?_⟩
  rw [exec_ldRegN8]
  exact load8_intoReg (src := .imm8 n) (holds_nil s) rfl

/-- Settles O3: one read into a register, and two writes, at the HL of the state before the load. -/
theorem loadThroughHL : Obligations.LoadThroughHL := by
  intro r n s
  refine ⟨encode_ldRegMem r, encode_ldMemReg r, rfl, tableRow_ldRegMem r, tableRow_ldMemReg r, rfl, ?_, ?_, ?_⟩
  · intro hl ha
    rw [exec_ldRegMem]
    exact load8_readBus hl rfl ha
  · intro h ha
    obtain ⟨hr, hl⟩ := holds_cons.1 h
    rw [exec_ldMemReg]
    exact load8_writeBus (src := .reg r) hr rfl hl rfl ha
  · intro hl ha
    rw [exec_ldMemHLN8]
    exact load8_writeBus (src := .imm8 n) (holds_nil s) rfl hl rfl ha

/-- Settles O4: A read from and written to the address in BC, in DE and in the stream. -/
theorem loadAccumulatorIndirect : Obligations.LoadAccumulatorIndirect := by
  intro n s
  refine ⟨rfl, rfl, rfl, rfl, rfl, rfl, rfl, rfl, rfl, rfl, rfl, rfl, ?_, ?_, ?_, ?_, ?_, ?_⟩
  · intro hbc ha
    rw [exec_ldAMemBC]
    exact load8_readBus hbc rfl ha
  · intro hde ha
    rw [exec_ldAMemDE]
    exact load8_readBus hde rfl ha
  · intro h ha
    obtain ⟨hA, hbc⟩ := holds_cons.1 h
    rw [exec_ldMemBCA]
    exact load8_writeBus (src := .reg .a) hA rfl hbc rfl ha
  · intro h ha
    obtain ⟨hA, hde⟩ := holds_cons.1 h
    rw [exec_ldMemDEA]
    exact load8_writeBus (src := .reg .a) hA rfl hde rfl ha
  · intro hA ha
    rw [exec_ldMemA16A]
    exact load8_writeBus (src := .reg .a) hA rfl (holds_nil s) rfl ha
  · intro ha
    rw [exec_ldAMemA16]
    exact load8_readBus (holds_nil s) rfl ha

/-- Settles O6: A read from and written to the high page, at the stream byte and at C. -/
theorem loadHighPage : Obligations.LoadHighPage := by
  intro n s
  refine ⟨highPage_toNat n, rfl, rfl, rfl, rfl, rfl, rfl, rfl, rfl, ?_, ?_, ?_, ?_⟩
  · intro hA ha
    rw [exec_ldhMemA8A]
    exact load8_writeBus (src := .reg .a) hA rfl (holds_nil s) rfl ha
  · intro ha
    rw [exec_ldhAMemA8]
    exact load8_readBus (holds_nil s) rfl ha
  · intro h ha
    obtain ⟨hA, hC⟩ := holds_cons.1 h
    rw [exec_ldMemCA]
    exact load8_writeBus (src := .reg .a) hA rfl hC rfl ha
  · intro hC ha
    rw [exec_ldAMemC]
    exact load8_readBus hC rfl ha

end Sys2Proof.Machine
end

section
/-! The stack pointer plus a signed offset (R602, R804). Both instructions apply `spAdd` to SP, which masks SP
and the offset where the statement takes remainders. -/
namespace Sys2Proof.Machine

open Sys2Proof

/-- `sp_add` of R800 by remainders: both flag sums are unsigned, whatever the sign of `e` (C1). -/
theorem spAdd_eq (sp : Word) (e : Byte) :
    spAdd sp e = (sp + sext16 e, decide (0x0F < sp.toNat % 16 + e.toNat % 16),
      decide (0xFF < sp.toNat % 256 + e.toNat)) := by
  rw [spAdd, toNat_and_000F, toNat_and_00FF, lowNibble_eq]

/-- Settles O8: both instructions write `sp_add` of SP and the offset, LD HL,SP+e8 to HL and ADD SP,e8 to SP. -/
theorem stackPointerOffset : Obligations.StackPointerOffset := by
  intro e s
  refine ⟨rfl, rfl, rfl, rfl, fun hsp => ⟨?_, ?_⟩⟩
  · rw [exec_ldHLSPE8]
    exact loadHLSP_next.2 ⟨hsp, by rw [spAdd_eq]⟩
  · rw [exec_addSPE8]
    exact addSP_next.2 ⟨hsp, by rw [spAdd_eq]⟩

end Sys2Proof.Machine
end

section
/-! The 8-bit arithmetic and logic (R700 to R733, R740 to R743). The eight operations share one rule,
`alu8`, whatever the operand form: their statements differ in the byte the form copies and in the state after
it, not in what happens to A and the flags. -/
namespace Sys2Proof.Machine

open Sys2Proof

variable {s : State} {op : AluOp} {src : Src8} {out : AluOut} {cost : Nat}

/-! ### Slots -/

theorem State.Holds.mono {ms ns : List RegName} (h : s.Holds ns) (sub : ms ⊆ ns) : s.Holds ms :=
  fun n hn => h n (sub hn)

/-! ### The functions of the operations over the integers -/

theorem add8_res_toNat (a v : Byte) (c : Bool) :
    (add8 a v c).res.toNat = (a.toNat + v.toNat + c.toNat) % 256 :=
  BitVec.toNat_ofNat _ 8

theorem add8_z (a v : Byte) (c : Bool) : (add8 a v c).z = true ↔ (add8 a v c).res = 0 :=
  decide_eq_true_iff

theorem add8_h (a v : Byte) (c : Bool) :
    (add8 a v c).h = true ↔ 0x0F < a.toNat % 16 + v.toNat % 16 + c.toNat := by
  rw [← lowNibble_eq, ← lowNibble_eq]
  exact decide_eq_true_iff

theorem add8_c (a v : Byte) (c : Bool) :
    (add8 a v c).c = true ↔ 0xFF < a.toNat + v.toNat + c.toNat :=
  decide_eq_true_iff

theorem sub8_res_toNat (a v : Byte) (c : Bool) :
    ((sub8 a v c).res.toNat : Int) = ((a.toNat : Int) - v.toNat - c.toNat) % 256 := by
  have hres : (sub8 a v c).res.toNat = (((a.toNat : Int) - v.toNat - c.toNat) % 256).toNat :=
    BitVec.toNat_ofInt (n := 8) _
  rw [hres, Int.toNat_of_nonneg]
  exact Int.emod_nonneg _ (by decide)

theorem sub8_z (a v : Byte) (c : Bool) : (sub8 a v c).z = true ↔ (sub8 a v c).res = 0 :=
  decide_eq_true_iff

/-- The borrow out of bit 3: the difference of the low nibbles is negative. -/
theorem sub8_h (a v : Byte) (c : Bool) :
    (sub8 a v c).h = true ↔ a.toNat % 16 < v.toNat % 16 + c.toNat := by
  rw [← lowNibble_eq, ← lowNibble_eq]
  refine decide_eq_true_iff.trans ?_
  omega

/-- The borrow: the whole difference is negative. -/
theorem sub8_c (a v : Byte) (c : Bool) : (sub8 a v c).c = true ↔ a.toNat < v.toNat + c.toNat := by
  refine decide_eq_true_iff.trans ?_
  omega

/-! ### The shared rule -/

theorem writeAluResult_eq (op : AluOp) (res : Byte) (s : State) :
    writeAluResult op res s = if op = .cp then s else s.setReg8 .a res := by
  cases op <;> rfl

/-- `alu8` where it completes, with `out` for what the operation's function gives. -/
theorem alu8_run (hsrc : s.Holds (srcNames src)) (hbus : s.AdmitsOpt (srcAddr src s)) (ha : s.Holds [.a])
    (hc : usesCarry op = true → s.Holds [.fc])
    (hout : out = aluFn op s.a (s.srcVal src) (usesCarry op && s.flags.c)) :
    alu8 op src cost s =
      .next (((if op = .cp then s.afterSrc src else (s.afterSrc src).setReg8 .a out.res).setFlags
        (some out.z) (some out.n) (some out.h) (some out.c)).owing (cost - 1)) := by
  subst hout
  rw [← writeAluResult_eq]
  exact alu8_next.2 ⟨hsrc, hbus, ha, hc, rfl⟩

/-! ### Decimal adjust -/

theorem daaFn_afterAddition (a : Byte) (h c : Bool) :
    daaFn a false h c =
      (a + ((if c || decide (0x99 < a.toNat) then 0x60 else 0x00) |||
          (if h || decide (0x09 < a.toNat % 16) then 0x06 else 0x00)),
        c || decide (0x99 < a.toNat)) := by
  rw [← lowNibble_eq]
  rfl

theorem daaFn_afterSubtraction (a : Byte) (h c : Bool) :
    daaFn a true h c = (a - ((if c then 0x60 else 0x00) ||| (if h then 0x06 else 0x00)), c) := rfl

/-- `decimalAdjust` where it completes, with `res` and `carry` for what `daaFn` gives. -/
theorem decimalAdjust_run {n carry : Bool} {res : Byte} (hs : s.Holds [.a, .fn, .fh, .fc])
    (hn : s.flags.n = n) (hfn : daaFn s.a n s.flags.h s.flags.c = (res, carry)) :
    decimalAdjust cost s =
      .next (((s.setReg8 .a res).setFlags (some (decide (res = 0))) none (some false) (some carry)).owing
        (cost - 1)) := by
  subst hn
  exact decimalAdjust_next.2 ⟨hs.mono (by simp), by rw [hfn]⟩

/-! ### Encodings and rows of the forms -/

theorem encode_aluReg (op : AluOp) (r : Reg8) : encode (aluReg op r) = [opByte 2 op.code r.code] := by
  cases op <;> cases r <;> rfl
theorem tableRow_aluReg (op : AluOp) (r : Reg8) : tableRow (aluReg op r) = row [.reg r.any] [] 1 1 := by
  cases op <;> cases r <;> rfl

theorem encode_aluMem (op : AluOp) : encode (aluMem op) = [opByte 2 op.code 6] := by cases op <;> rfl
theorem tableRow_aluMem (op : AluOp) : tableRow (aluMem op) = row [.ind .hl] [] 1 2 := by cases op <;> rfl

theorem encode_aluN8 (op : AluOp) (n : Byte) : encode (aluN8 op n) = [opByte 3 op.code 6, n] := by
  cases op <;> rfl
theorem tableRow_aluN8 (op : AluOp) (n : Byte) : tableRow (aluN8 op n) = row [.imm8] [] 2 2 := by
  cases op <;> rfl

/-! ### The statements -/

/-- Settles O14: the functions are `add8`, `sub8` and the bitwise operations; ADD and SUB drop the carry
they are given, and CP is SUB. -/
theorem aluFunctions : Obligations.AluFunctions := by
  intro a v c
  refine ⟨⟨rfl, rfl, rfl⟩, ?_, ?_, rfl, rfl, rfl⟩
  · exact ⟨add8_res_toNat a v c, add8_z a v c, rfl, add8_h a v c, add8_c a v c⟩
  · exact ⟨sub8_res_toNat a v c, sub8_z a v c, rfl, sub8_h a v c, sub8_c a v c⟩

/-- Settles O11: the shared rule on a register, which makes no bus access. -/
theorem aluRegister : Obligations.AluRegister := by
  intro op r s out
  refine ⟨encode_aluReg op r, tableRow_aluReg op r, fun hs hc => ?_⟩
  obtain ⟨hr, ha⟩ := holds_cons.1 hs
  rw [exec_aluReg]
  exact alu8_run (src := .reg r) hr (admitsOpt_none s) ha hc rfl

/-- Settles O12: the shared rule on the byte at HL, after the one bus read. -/
theorem aluMemory : Obligations.AluMemory := by
  intro op s out s1
  refine ⟨encode_aluMem op, tableRow_aluMem op, fun hs hc hbus => ?_⟩
  have hhl : s.Holds [.h, .l] := hs.mono (by simp)
  have ha : s.Holds [.a] := hs.mono (by simp)
  rw [exec_aluMem]
  exact alu8_run (src := .ind .hl) hhl ((admitsOpt_some s _).2 hbus) ha hc rfl

/-- Settles O13: the shared rule on the stream byte, which reads no slot for its operand. -/
theorem aluImmediate : Obligations.AluImmediate := by
  intro op n s out
  refine ⟨encode_aluN8 op n, tableRow_aluN8 op n, fun ha hc => ?_⟩
  rw [exec_aluN8]
  exact alu8_run (src := .imm8 n) (holds_nil s) (admitsOpt_none s) ha hc rfl

/-- Settles O16: one case for each value of N, which chooses the branch of `daaFn`. The plain name
`decimalAdjust` is the rule's own in the model. -/
theorem decimalAdjust_daa : Obligations.DecimalAdjust := by
  intro s
  refine ⟨rfl, rfl, fun hs hn => ?_, fun hs hn => ?_⟩
  · rw [exec_daa]
    exact decimalAdjust_run hs hn (daaFn_afterAddition s.a s.flags.h s.flags.c)
  · rw [exec_daa]
    exact decimalAdjust_run hs hn (daaFn_afterSubtraction s.a s.flags.h s.flags.c)

/-- Settles O18: CPL reads A and CCF the carry flag, SCF reads no slot. -/
theorem complementAndCarry : Obligations.ComplementAndCarry := by
  intro s
  refine ⟨rfl, rfl, rfl, rfl, rfl, rfl, fun ha => ?_, ?_, fun hc => ?_⟩
  · rw [exec_cpl]
    exact complementA_next.2 ⟨ha, rfl⟩
  · rw [exec_scf]
    exact charge_next.2 rfl
  · rw [exec_ccf]
    exact complementCarry_next.2 ⟨hc, rfl⟩

end Sys2Proof.Machine
end

section
/-! The 16-bit arithmetic (R801 to R803). The pair forms share two rules, `addHL` and `add16To`, and differ
in the register they name; `add16` masks its operands where the statement takes remainders. -/
namespace Sys2Proof.Machine

open Sys2Proof

/-! ### The sum of two words -/

/-- `add16` of R800 by remainders: the sum is modulo 65536 as the addition of words is. -/
theorem add16_eq (a b : Word) :
    add16 a b = (a + b, decide (0x0FFF < a.toNat % 4096 + b.toNat % 4096),
      decide (0xFFFF < a.toNat + b.toNat)) := by
  rw [add16, toNat_and_0FFF, toNat_and_0FFF, BitVec.add_def]

/-! ### Encodings and rows of the pair forms -/

theorem encode_addHLPair (p : RP) : encode (addHLPair p) = [opByte 0 (2 * p.code + 1) 1] := by
  cases p <;> rfl
theorem tableRow_addHLPair (p : RP) : tableRow (addHLPair p) = row [.reg p.any] [.reg .hl] 1 2 := by
  cases p <;> rfl

theorem encode_incPair (p : RP) : encode (incPair p) = [opByte 0 (2 * p.code) 3] := by cases p <;> rfl
theorem tableRow_incPair (p : RP) : tableRow (incPair p) = row [.reg p.any] [.reg p.any] 1 2 := by
  cases p <;> rfl

theorem encode_decPair (p : RP) : encode (decPair p) = [opByte 0 (2 * p.code + 1) 3] := by cases p <;> rfl
theorem tableRow_decPair (p : RP) : tableRow (decPair p) = row [.reg p.any] [.reg p.any] 1 2 := by
  cases p <;> rfl

/-! ### The statement -/

/-- Settles O19: ADD HL,rr writes `add16` of the old HL and the pair; INC rr and DEC rr are one rule, which
adds 1 or -1 to the pair. -/
theorem pairArithmetic : Obligations.PairArithmetic := by
  intro p s v hl
  refine ⟨encode_addHLPair p, encode_incPair p, encode_decPair p, tableRow_addHLPair p, tableRow_incPair p,
    tableRow_decPair p, fun hp hhl => ?_, fun hp => ⟨?_, ?_⟩⟩
  · rw [exec_addHLPair]
    exact addHL_next.2 ⟨hp, hhl, by rw [add16_eq]⟩
  · rw [exec_incPair]
    exact add16To_next.2 ⟨hp, rfl⟩
  · rw [exec_decPair]
    exact add16To_next.2 ⟨hp, by rw [BitVec.sub_eq_add_neg]⟩

end Sys2Proof.Machine
end

section
/-! The rotates, shifts and bit instructions (R900 to R935). The memory forms access the bus at HL alone,
reading it before they write it; the functions of R910 are sums of parts with no bit in common. -/
namespace Sys2Proof.Machine

open Sys2Proof

/-! ### A byte read and written back through a pair -/

/-- The read leaves the pair alone, so the write goes to the address that was read. -/
theorem State.afterTgt_afterSrc_ind (s : State) (rr : IndReg) (v : Byte) :
    (s.afterSrc (.ind rr)).afterTgt (.ind rr) v =
      (s.afterRead (s.reg16 (indReg16 rr))).afterWrite (s.reg16 (indReg16 rr)) v := by
  have htgt : tgtAddr (.ind rr) (s.afterSrc (.ind rr)) = some (s.reg16 (indReg16 rr)) := tgtAddr_afterSrc s _ _
  rw [State.afterTgt_of_tgtAddr_some htgt, State.afterSrc_of_srcAddr_some (srcAddr_ind rr s)]

/-! ### Encodings and rows of the forms -/

theorem encode_rotReg (op : RotOp) (r : Reg8) : encode (rotReg op r) = [0xCB, opByte 0 op.code r.code] := by
  cases op <;> cases r <;> rfl
theorem tableRow_rotReg (op : RotOp) (r : Reg8) :
    tableRow (rotReg op r) = row [.reg r.any] [.reg r.any] 2 2 := by
  cases op <;> cases r <;> rfl

theorem encode_rotMem (op : RotOp) : encode (rotMem op) = [0xCB, opByte 0 op.code 6] := by cases op <;> rfl
theorem tableRow_rotMem (op : RotOp) : tableRow (rotMem op) = row [.ind .hl] [.ind .hl] 2 4 := by
  cases op <;> rfl

theorem encode_bitReg (b : Fin 8) (r : Reg8) : encode (bitReg b r) = [0xCB, opByte 1 b.val r.code] := by
  fin_cases b <;> cases r <;> rfl
theorem tableRow_bitReg (b : Fin 8) (r : Reg8) : tableRow (bitReg b r) = row [.reg r.any] [] 2 2 := by
  fin_cases b <;> cases r <;> rfl

theorem encode_bitMem (b : Fin 8) : encode (bitMem b) = [0xCB, opByte 1 b.val 6] := by fin_cases b <;> rfl
theorem tableRow_bitMem (b : Fin 8) : tableRow (bitMem b) = row [.ind .hl] [] 2 3 := by fin_cases b <;> rfl

theorem encode_resReg (b : Fin 8) (r : Reg8) : encode (resReg b r) = [0xCB, opByte 2 b.val r.code] := by
  fin_cases b <;> cases r <;> rfl
theorem tableRow_resReg (b : Fin 8) (r : Reg8) :
    tableRow (resReg b r) = row [.reg r.any] [.reg r.any] 2 2 := by
  fin_cases b <;> cases r <;> rfl

theorem encode_resMem (b : Fin 8) : encode (resMem b) = [0xCB, opByte 2 b.val 6] := by fin_cases b <;> rfl
theorem tableRow_resMem (b : Fin 8) : tableRow (resMem b) = row [.ind .hl] [.ind .hl] 2 4 := by
  fin_cases b <;> rfl

theorem encode_setReg (b : Fin 8) (r : Reg8) : encode (setReg b r) = [0xCB, opByte 3 b.val r.code] := by
  fin_cases b <;> cases r <;> rfl
theorem tableRow_setReg (b : Fin 8) (r : Reg8) :
    tableRow (setReg b r) = row [.reg r.any] [.reg r.any] 2 2 := by
  fin_cases b <;> cases r <;> rfl

theorem encode_setMem (b : Fin 8) : encode (setMem b) = [0xCB, opByte 3 b.val 6] := by fin_cases b <;> rfl
theorem tableRow_setMem (b : Fin 8) : tableRow (setMem b) = row [.ind .hl] [.ind .hl] 2 4 := by
  fin_cases b <;> rfl

/-! ### The bits of a byte as numbers -/

/-- Two parts with no bit in common, one below `2 ^ k` and one a multiple of it: their union is their sum. -/
theorem toNat_or_of_disjoint {x y : Byte} (k m : Nat) (hx : x.toNat = 2 ^ k * m) (hy : y.toNat < 2 ^ k) :
    (x ||| y).toNat = x.toNat + y.toNat := by
  rw [BitVec.toNat_or, hx, ← Nat.two_pow_add_eq_or_of_lt hy]

theorem toNat_shiftLeft_byte (v : Byte) (k : Nat) : (v <<< k).toNat = 2 ^ k * v.toNat % 256 := by
  rw [BitVec.toNat_shiftLeft, Nat.shiftLeft_eq, Nat.mul_comm]

theorem toNat_ushiftRight_byte (v : Byte) (k : Nat) : (v >>> k).toNat = v.toNat / 2 ^ k := by
  rw [BitVec.toNat_ushiftRight, Nat.shiftRight_eq_div_pow]

/-- A flag widened to a byte, as RL and RR shift the carry in. -/
theorem toNat_flagByte (c : Bool) : ((BitVec.ofBool c).zeroExtend 8).toNat = c.toNat := by
  cases c <;> rfl

theorem bitByte_toNat (v : Byte) (k : Nat) : (bitByte v k).toNat = v.toNat / 2 ^ k % 2 := by
  rw [bitByte, toNat_flagByte, BitVec.getLsbD, Nat.toNat_testBit]

theorem bitByte_seven (v : Byte) : bitByte v 7 = v >>> 7 := by
  apply BitVec.eq_of_toNat_eq
  rw [bitByte_toNat, toNat_ushiftRight_byte]
  omega

theorem bitByte_zero_shiftLeft (v : Byte) : bitByte v 0 <<< 7 = v <<< 7 := by
  apply BitVec.eq_of_toNat_eq
  rw [toNat_shiftLeft_byte, toNat_shiftLeft_byte, bitByte_toNat]
  omega

theorem toNat_and_0F (v : Byte) : (v &&& 0x0F#8).toNat = v.toNat % 16 := lowNibble_eq v

theorem toNat_and_80 (v : Byte) : (v &&& 0x80#8).toNat = 128 * (v.toNat / 128) := by
  have h80 : (0x80#8).toNat = 2 ^ 7 := rfl
  rw [BitVec.toNat_and, h80, Nat.and_two_pow, Nat.toNat_testBit]
  omega

/-! ### The functions of R910 -/

theorem rotFn_rlc (v : Byte) (c : Bool) : rotFn .rlc v c = (v.rotateLeft 1, v.getLsbD 7) := by
  rw [rotFn, bitByte_seven]
  rfl

theorem rotFn_rrc (v : Byte) (c : Bool) : rotFn .rrc v c = (v.rotateRight 1, v.getLsbD 0) := by
  rw [rotFn, bitByte_zero_shiftLeft]
  rfl

theorem rotFn_rl_toNat (v : Byte) (c : Bool) : (rotFn .rl v c).1.toNat = (2 * v.toNat + c.toNat) % 256 := by
  have hc := c.toNat_lt
  rw [rotFn, toNat_or_of_disjoint 1 (v.toNat % 128), toNat_shiftLeft_byte, toNat_flagByte]
  · omega
  · rw [toNat_shiftLeft_byte]
    omega
  · rwa [toNat_flagByte]

theorem rotFn_rr_toNat (v : Byte) (c : Bool) : (rotFn .rr v c).1.toNat = v.toNat / 2 + 128 * c.toNat := by
  have hc := c.toNat_lt
  rw [rotFn, BitVec.or_comm, toNat_or_of_disjoint 7 c.toNat, toNat_shiftLeft_byte, toNat_ushiftRight_byte,
    toNat_flagByte]
  · omega
  · rw [toNat_shiftLeft_byte, toNat_flagByte]
    omega
  · rw [toNat_ushiftRight_byte]
    omega

theorem rotFn_sla_toNat (v : Byte) (c : Bool) : (rotFn .sla v c).1.toNat = 2 * v.toNat % 256 :=
  toNat_shiftLeft_byte v 1

theorem rotFn_sra_toNat (v : Byte) (c : Bool) :
    (rotFn .sra v c).1.toNat = v.toNat / 2 + 128 * (v.toNat / 128) := by
  rw [rotFn, BitVec.or_comm, toNat_or_of_disjoint 7 (v.toNat / 128), toNat_and_80, toNat_ushiftRight_byte]
  · omega
  · exact toNat_and_80 v
  · rw [toNat_ushiftRight_byte]
    omega

/-- Bit 7 is kept, so the sign is: SRA halves the signed value, rounding down. -/
theorem rotFn_sra_toInt (v : Byte) (c : Bool) : (rotFn .sra v c).1.toInt = v.toInt / 2 := by
  rw [BitVec.toInt_eq_toNat_cond, BitVec.toInt_eq_toNat_cond, rotFn_sra_toNat]
  split <;> split <;> omega

theorem rotFn_swap_toNat (v : Byte) (c : Bool) :
    (rotFn .swap v c).1.toNat = v.toNat % 16 * 16 + v.toNat / 16 := by
  rw [rotFn, toNat_or_of_disjoint 4 (v.toNat % 16), toNat_shiftLeft_byte, toNat_ushiftRight_byte, toNat_and_0F]
  · omega
  · rw [toNat_shiftLeft_byte, toNat_and_0F]
    omega
  · rw [toNat_ushiftRight_byte]
    omega

theorem rotFn_srl_toNat (v : Byte) (c : Bool) : (rotFn .srl v c).1.toNat = v.toNat / 2 :=
  toNat_ushiftRight_byte v 1

/-! ### The statements -/

/-- Settles O21: RLCA and RRCA take no carry in, so they read A alone. -/
theorem accumulatorRotates : Obligations.AccumulatorRotates := by
  intro s
  refine ⟨rfl, rfl, rfl, rfl, rfl, rfl, rfl, rfl, fun ha => ⟨?_, ?_⟩, fun h => ?_⟩
  · rw [exec_rlca]
    exact rotA_next.2 ⟨ha, nofun, rfl⟩
  · rw [exec_rrca]
    exact rotA_next.2 ⟨ha, nofun, rfl⟩
  · obtain ⟨ha, hc⟩ := holds_cons.1 h
    rw [exec_rla, exec_rra]
    exact ⟨rotA_next.2 ⟨ha, fun _ => hc, rfl⟩, rotA_next.2 ⟨ha, fun _ => hc, rfl⟩⟩

/-- Settles O22: the shared rule from a register to itself, which makes no bus access. -/
theorem rotateRegister : Obligations.RotateRegister := by
  intro op r s out
  refine ⟨encode_rotReg op r, tableRow_rotReg op r, fun hr hc => ?_⟩
  rw [exec_rotReg]
  exact rot8_next.2 ⟨hr, admitsOpt_none s, holds_nil s, hc, admitsOpt_none s, rfl⟩

/-- Settles O23: the shared rule from HL to HL, one address that the window admits for both accesses. -/
theorem rotateMemory : Obligations.RotateMemory := by
  intro op s out
  refine ⟨encode_rotMem op, tableRow_rotMem op, fun hl hc ha => ?_⟩
  have hbus : s.AdmitsOpt (some (s.reg16 .hl)) := (admitsOpt_some s _).2 ha
  rw [exec_rotMem]
  exact rot8_next.2 ⟨hl, hbus, hl, hc, hbus, by rw [State.afterTgt_afterSrc_ind]; rfl⟩

/-- Settles O24: the test of a register and of the byte at HL, which writes no operand back. -/
theorem testBit : Obligations.TestBit := by
  intro b r s
  refine ⟨encode_bitReg b r, encode_bitMem b, tableRow_bitReg b r, tableRow_bitMem b, fun hr => ?_,
    fun hl ha => ?_⟩
  · rw [exec_bitReg]
    exact bitTest_next.2 ⟨hr, admitsOpt_none s, rfl⟩
  · rw [exec_bitMem]
    exact bitTest_next.2 ⟨hl, (admitsOpt_some s _).2 ha, rfl⟩

/-- Settles O25: RES and SET differ in the byte they write back, not in the accesses. -/
theorem resetAndSetBit : Obligations.ResetAndSetBit := by
  intro b r s m s1
  refine ⟨encode_resReg b r, encode_resMem b, encode_setReg b r, encode_setMem b, tableRow_resReg b r,
    tableRow_resMem b, tableRow_setReg b r, tableRow_setMem b, fun hr => ?_, fun hl ha => ?_⟩
  · have hbus : s.AdmitsOpt none := admitsOpt_none s
    rw [exec_resReg, exec_setReg]
    exact ⟨bitReset_next.2 ⟨hr, hbus, holds_nil s, hbus, rfl⟩, bitSet_next.2 ⟨hr, hbus, holds_nil s, hbus, rfl⟩⟩
  · have hbus : s.AdmitsOpt (some (s.reg16 .hl)) := (admitsOpt_some s _).2 ha
    rw [exec_resMem, exec_setMem]
    exact ⟨bitReset_next.2 ⟨hl, hbus, hl, hbus, by rw [State.afterTgt_afterSrc_ind]; rfl⟩,
      bitSet_next.2 ⟨hl, hbus, hl, hbus, by rw [State.afterTgt_afterSrc_ind]; rfl⟩⟩

/-- Settles O20: the bit carried out stands in each function's definition, so each result is what is shown. -/
theorem rotateFunctions : Obligations.RotateFunctions := by
  intro v c
  exact ⟨rotFn_rlc v c, rotFn_rrc v c, ⟨rotFn_rl_toNat v c, rfl⟩, ⟨rotFn_rr_toNat v c, rfl⟩,
    ⟨rotFn_sla_toNat v c, rfl⟩, ⟨rotFn_sra_toInt v c, rfl⟩, ⟨rotFn_swap_toNat v c, rfl⟩,
    ⟨rotFn_srl_toNat v c, rfl⟩⟩

end Sys2Proof.Machine
end

section
/-! The jumps, calls and restarts (R1000 to R1021, R1040). The conditional forms share three rules, which
read one flag and then either transfer or only charge; a call and a restart are one push and one write of
`pc`, in a rule that starts with `pc` past the instruction (R11). -/
namespace Sys2Proof.Machine

open Sys2Proof

variable {s : State} {cc : Cond} {n : Word} {c d : Nat}

/-! ### Both outcomes of a conditional call -/

theorem callIf_taken (hcc : s.Holds (condNames cc)) (hc : condOf cc s.flags = true) (hp : s.PushReady) :
    callIf cc n c d s = .next (((s.afterPush s.pc).setPc n).owing (c - 1)) :=
  callIf_next.2 ⟨hcc, by rw [if_pos hc]; exact ⟨hp, rfl⟩⟩

/-- A call not taken asks nothing of the stack. -/
theorem callIf_notTaken (hcc : s.Holds (condNames cc)) (hc : condOf cc s.flags = false) :
    callIf cc n c d s = .next (s.owing (d - 1)) :=
  callIf_next.2 ⟨hcc, by rw [if_neg (ne_true_of_eq_false hc)]⟩

/-! ### Encodings and rows of the forms -/

theorem encode_jpIf (cc : Cond) (n : Word) : encode (jpIf cc n) = [opByte 3 cc.code 2, loByte n, hiByte n] := by
  cases cc <;> rfl
theorem tableRow_jpIf (cc : Cond) (n : Word) : tableRow (jpIf cc n) = row [.imm16] [] 3 4 (some 3) := by
  cases cc <;> rfl

theorem encode_jrIf (cc : Cond) (e : Byte) : encode (jrIf cc e) = [opByte 0 (4 + cc.code) 0, e] := by
  cases cc <;> rfl
theorem tableRow_jrIf (cc : Cond) (e : Byte) : tableRow (jrIf cc e) = row [.imm8] [] 2 3 (some 2) := by
  cases cc <;> rfl

theorem encode_callCond (cc : Cond) (n : Word) :
    encode (callCond cc n) = [opByte 3 cc.code 4, loByte n, hiByte n] := by
  cases cc <;> rfl
theorem tableRow_callCond (cc : Cond) (n : Word) :
    tableRow (callCond cc n) = row [.imm16] [] 3 6 (some 3) := by
  cases cc <;> rfl

theorem encode_rstTo (y : Fin 8) : encode (rstTo y) = [opByte 3 y.val 7] := by fin_cases y <;> rfl
theorem tableRow_rstTo (y : Fin 8) : tableRow (rstTo y) = row [] [] 1 4 := by fin_cases y <;> rfl

/-! ### The statements -/

/-- Settles O26: the four jump rules; the conditional ones read the slot of their flag, JP HL those of HL and
the others none. -/
theorem jumps : Obligations.Jumps := by
  intro cc n e s
  refine ⟨⟨rfl, rfl, rfl, rfl⟩, rfl, encode_jpIf cc n, rfl, rfl, encode_jrIf cc e, rfl, tableRow_jpIf cc n, rfl,
    rfl, tableRow_jrIf cc e, ?_, fun hhl => ?_, ?_, fun hcc => ⟨?_, ?_⟩⟩
  · rw [exec_jpA16]
    exact jump_imm_next.2 rfl
  · rw [exec_jpHL]
    exact jump_reg_next.2 ⟨hhl, rfl⟩
  · rw [exec_jrE8]
    exact jumpRel_next.2 rfl
  · rw [exec_jpIf]
    exact jumpIf_next.2 ⟨hcc, rfl⟩
  · rw [exec_jrIf]
    exact jumpRelIf_next.2 ⟨hcc, rfl⟩

/-- Settles O27: CALL and RST push under one hypothesis on the stack, which a CALL cc needs only when taken. -/
theorem calls : Obligations.Calls := by
  intro cc n y s
  refine ⟨rfl, encode_callCond cc n, encode_rstTo y, rfl, tableRow_callCond cc n, tableRow_rstTo y,
    fun hp => ⟨?_, ?_⟩, fun hcc hc hp => ?_, fun hcc hc => ?_⟩
  · rw [exec_callA16]
    exact call_next.2 ⟨hp, rfl⟩
  · rw [exec_rstTo]
    exact restart_next.2 ⟨hp, rfl⟩
  · rw [exec_callCond]
    exact callIf_taken hcc hc hp
  · rw [exec_callCond]
    exact callIf_notTaken hcc hc

end Sys2Proof.Machine
end

section
/-! The decoder and the encoder (R300, R301, R310, R330, R340, R343). The two meet in the cells of the opcode
maps: a cell holds an instruction, and the encoder writes the cell's opcode and operand for it. -/
namespace Sys2Proof

open Sys2Proof.Machine

variable {op : Byte} {before : List RegName} {i : Instr}

/-! ### The decoder by the kind of entry -/

theorem decode_op (h : lookupPrimary op = .op i) (rest : List Byte) : decode (op :: rest) = .ok (i, rest) := by
  simp only [decode, h]

theorem decode_miss (h : lookupPrimary op = .miss) (rest : List Byte) :
    decode (op :: rest) = .ok (.unassigned op, rest) := by
  simp only [decode, h]

theorem decode_op8 {f : Byte → Instr} (h : lookupPrimary op = .op8 before f) (n : Byte) (rest : List Byte) :
    decode (op :: n :: rest) = .ok (f n, rest) := by
  simp only [decode, h]

theorem decode_op16 {f : Word → Instr} (h : lookupPrimary op = .op16 before f) (lo hi : Byte) (rest : List Byte) :
    decode (op :: lo :: hi :: rest) = .ok (f (wordOf hi lo), rest) := by
  simp only [decode, h]

/-- An operand word is put together again from the two bytes the encoder writes. -/
theorem decode_word {f : Word → Instr} (h : lookupPrimary op = .op16 before f) (w : Word) (rest : List Byte) :
    decode (op :: loByte w :: hiByte w :: rest) = .ok (f w, rest) := by
  rw [decode_op16 h, wordOf_bytes]

theorem decode_opPad (h : lookupPrimary op = .opPad i) (x : Byte) (rest : List Byte) :
    decode (op :: x :: rest) = .ok (i, rest) := by
  simp only [decode, h]

theorem decode_extend (op2 : Byte) (rest : List Byte) :
    decode (0xCB :: op2 :: rest) = .ok (lookupExtended op2, rest) := rfl

theorem lookupPrimary_unassigned (h : op ∈ unassignedOpcodes) : lookupPrimary op = .miss := by
  simp only [unassignedOpcodes, List.mem_cons, List.not_mem_nil, or_false] at h
  rcases h with rfl | rfl | rfl | rfl | rfl | rfl | rfl | rfl | rfl | rfl | rfl <;> rfl

theorem wf_unassigned : (Instr.unassigned op).wf = true ↔ op ∈ unassignedOpcodes := by
  simp only [Instr.wf, checkUnassigned, List.contains_iff_mem]

/-- A byte is one of 256 numerals. -/
theorem Byte.exists_ofNat (v : Byte) : ∃ k < 256, v = BitVec.ofNat 8 k :=
  ⟨v.toNat, v.isLt, by rw [BitVec.ofNat_toNat, BitVec.setWidth_eq]⟩

/-! ### What the entries of the maps hold -/

/-- The instruction of an entry, by the byte or the word that follows its opcode. -/
def Entry.instr (op n : Byte) (w : Word) : Entry → Instr
  | .op i => i
  | .op8 _ f => f n
  | .op16 _ f => f w
  | .opPad i => i
  | .extend => lookupExtended n
  | .miss => .unassigned op

/-- The stream bytes of an entry, with `STOP`'s second byte as the encoder writes it. -/
def Entry.bytes (op n : Byte) (w : Word) : Entry → List Byte
  | .op _ => [op]
  | .op8 _ _ => [op, n]
  | .op16 _ _ => [op, loByte w, hiByte w]
  | .opPad _ => [op, 0x00]
  | .extend => [op, n]
  | .miss => [op]

/-- The slots an entry reads before its stream bytes. -/
def Entry.slotsBefore : Entry → List RegName
  | .op8 before _ => before
  | .op16 before _ => before
  | .op _ => []
  | .opPad _ => []
  | .extend => []
  | .miss => []

/-- What decoding and fetching rest on: the term is an instruction, its bytes, the slots read before them. -/
def stream (i : Instr) : Bool × List Byte × List RegName := (i.wf, encode i, sourcesBefore i)

theorem stream_lookupExtended (op : Byte) : stream (lookupExtended op) = (true, [0xCB, op], []) := by
  obtain ⟨k, hk, rfl⟩ := Byte.exists_ofNat op
  interval_cases k <;> rfl

/-- Each of the 256 cells of the primary map holds what the encoder writes for its opcode. -/
theorem stream_lookupPrimary (op n : Byte) (w : Word) :
    stream ((lookupPrimary op).instr op n w) =
      (true, (lookupPrimary op).bytes op n w, (lookupPrimary op).slotsBefore) := by
  obtain ⟨k, hk, rfl⟩ := Byte.exists_ofNat op
  interval_cases k
  pick_goal 204
  · exact stream_lookupExtended n
  all_goals rfl

theorem lookupPrimary_opPad (h : lookupPrimary op = .opPad i) : op = 0x10 ∧ i = .stop := by
  obtain ⟨k, hk, rfl⟩ := Byte.exists_ofNat op
  interval_cases k <;> cases h
  exact ⟨rfl, rfl⟩

theorem lookupPrimary_extend (h : lookupPrimary op = .extend) : op = 0xCB := by
  have hs := stream_lookupPrimary op 0 0
  rw [h, Entry.instr, stream_lookupExtended] at hs
  cases hs
  rfl

theorem wf_instr (op n : Byte) (w : Word) : ((lookupPrimary op).instr op n w).wf = true :=
  congrArg (·.1) (stream_lookupPrimary op n w)

theorem encode_instr (op n : Byte) (w : Word) :
    encode ((lookupPrimary op).instr op n w) = (lookupPrimary op).bytes op n w :=
  congrArg (·.2.1) (stream_lookupPrimary op n w)

theorem sourcesBefore_instr (op n : Byte) (w : Word) :
    sourcesBefore ((lookupPrimary op).instr op n w) = (lookupPrimary op).slotsBefore :=
  congrArg (·.2.2) (stream_lookupPrimary op n w)

/-! ### The converse -/

/-- What decodes is the instruction of its first byte's entry, and was its encoding but for `STOP`'s second byte. -/
theorem decode_eq_ok {bytes rest : List Byte} (h : decode bytes = .ok (i, rest)) :
    ∃ op n w, i = (lookupPrimary op).instr op n w ∧
      (bytes = (lookupPrimary op).bytes op n w ++ rest ∨ i = .stop ∧ ∃ x, bytes = 0x10 :: x :: rest) := by
  rcases bytes with _ | ⟨op, more⟩
  · cases h
  refine ⟨op, more.getD 0 0, wordOf (more.getD 1 0) (more.getD 0 0), ?_⟩
  cases hl : lookupPrimary op with
  | op j => rw [decode_op hl] at h; cases h; exact ⟨rfl, .inl rfl⟩
  | miss => rw [decode_miss hl] at h; cases h; exact ⟨rfl, .inl rfl⟩
  | op8 before f =>
    rcases more with _ | ⟨n, more⟩
    · simp only [decode, hl] at h; cases h
    · rw [decode_op8 hl] at h; cases h; exact ⟨rfl, .inl rfl⟩
  | op16 before f =>
    rcases more with _ | ⟨lo, _ | ⟨hi, more⟩⟩
    · simp only [decode, hl] at h; cases h
    · simp only [decode, hl] at h; cases h
    · rw [decode_op16 hl] at h; cases h
      exact ⟨rfl, .inl (by simp [Entry.bytes])⟩
  | opPad j =>
    obtain ⟨rfl, rfl⟩ := lookupPrimary_opPad hl
    rcases more with _ | ⟨x, more⟩
    · cases h
    · rw [decode_opPad hl] at h; cases h; exact ⟨rfl, .inr ⟨rfl, x, rfl⟩⟩
  | extend =>
    obtain rfl := lookupPrimary_extend hl
    rcases more with _ | ⟨n, more⟩
    · cases h
    · rw [decode_extend] at h; cases h; exact ⟨rfl, .inl rfl⟩

/-- Three bytes are enough for the entry of any opcode. -/
theorem decode_three (op lo hi : Byte) (rest : List Byte) : ∃ i r, decode (op :: lo :: hi :: rest) = .ok (i, r) := by
  cases hl : lookupPrimary op with
  | op j => exact ⟨_, _, decode_op hl _⟩
  | miss => exact ⟨_, _, decode_miss hl _⟩
  | op8 before f => exact ⟨_, _, decode_op8 hl _ _⟩
  | op16 before f => exact ⟨_, _, decode_op16 hl _ _ _⟩
  | opPad j => exact ⟨_, _, decode_opPad hl _ _⟩
  | extend => obtain rfl := lookupPrimary_extend hl; exact ⟨_, _, decode_extend _ _⟩

/-! ### The statements -/

/-- Settles O52: what stands in the cell of an instruction's first byte builds it from the bytes after that byte. -/
theorem decodeOfEncode : Obligations.DecodeOfEncode := by
  intro i rest hwf
  induction i using instr_forms with
  | h_ldRegReg dst r => cases dst <;> cases r <;> exact decode_op rfl rest
  | h_ldRegN8 dst n8 => cases dst <;> exact decode_op8 rfl n8 rest
  | h_ldRegMem dst => cases dst <;> exact decode_op rfl rest
  | h_ldMemReg r => cases r <;> exact decode_op rfl rest
  | h_aluReg op r => cases op <;> cases r <;> exact decode_op rfl rest
  | h_aluMem op => cases op <;> exact decode_op rfl rest
  | h_aluN8 op n8 => cases op <;> exact decode_op8 rfl n8 rest
  | h_incReg dst => cases dst <;> exact decode_op rfl rest
  | h_decReg dst => cases dst <;> exact decode_op rfl rest
  | h_ldPairN16 p n16 => cases p <;> exact decode_word rfl n16 rest
  | h_addHLPair p => cases p <;> exact decode_op rfl rest
  | h_incPair p => cases p <;> exact decode_op rfl rest
  | h_decPair p => cases p <;> exact decode_op rfl rest
  | h_pushPair q => cases q <;> exact decode_op rfl rest
  | h_popPair q => cases q <;> exact decode_op rfl rest
  | h_jpIf cc n16 => cases cc <;> exact decode_word rfl n16 rest
  | h_jrIf cc n8 => cases cc <;> exact decode_op8 rfl n8 rest
  | h_callCond cc n16 => cases cc <;> exact decode_word rfl n16 rest
  | h_retCond cc => cases cc <;> exact decode_op rfl rest
  | h_rstTo b => fin_cases b <;> exact decode_op rfl rest
  | h_rotReg ro r => cases ro <;> cases r <;> exact decode_extend _ rest
  | h_rotMem ro => cases ro <;> exact decode_extend _ rest
  | h_bitReg b r => fin_cases b <;> cases r <;> exact decode_extend _ rest
  | h_bitMem b => fin_cases b <;> exact decode_extend _ rest
  | h_resReg b r => fin_cases b <;> cases r <;> exact decode_extend _ rest
  | h_resMem b => fin_cases b <;> exact decode_extend _ rest
  | h_setReg b r => fin_cases b <;> cases r <;> exact decode_extend _ rest
  | h_setMem b => fin_cases b <;> exact decode_extend _ rest
  | h_stop => exact decode_opPad rfl _ rest
  | h_prefixCB op2 => cases hwf
  | h_unassigned opcode => exact decode_miss (lookupPrimary_unassigned (wf_unassigned.1 hwf)) rest
  | h_ldMemA16SP n | h_jpA16 n | h_callA16 n | h_ldMemA16A n | h_ldAMemA16 n => exact decode_word rfl n rest
  | h_jrE8 n | h_ldMemHLN8 n | h_ldhMemA8A n | h_addSPE8 n | h_ldhAMemA8 n | h_ldHLSPE8 n =>
    exact decode_op8 rfl n rest
  | _ => exact decode_op rfl rest

/-- Settles O53: a decoded instruction is that of its first byte's cell, whose bytes the encoder writes. -/
theorem decodeOnlyEncodings : Obligations.DecodeOnlyEncodings := by
  refine ⟨fun bytes rest i h => ?_, fun bytes hlen => ?_⟩
  · obtain ⟨op, n, w, rfl, hb | ⟨hstop, hb⟩⟩ := decode_eq_ok h
    · rw [← encode_instr] at hb
      exact ⟨wf_instr op n w, fun _ => hb, fun hstop => ⟨0x00, by rw [hb, hstop]; rfl⟩⟩
    · exact ⟨wf_instr op n w, fun hne => absurd hstop hne, fun _ => hb⟩
  · match bytes, hlen with
    | op :: lo :: hi :: rest, _ => exact decode_three op lo hi rest

/-- Settles O54: the cell of each word's first byte, by its kind. -/
theorem decodeWords : Obligations.DecodeWords :=
  ⟨decode_op rfl [], decode_op8 rfl _ [], decode_op rfl [], decode_extend _ [], decode_op16 rfl _ _ [],
    decode_op8 rfl _ [], decode_op rfl [], decode_extend _ [], decode_op16 rfl _ _ [], decode_op rfl [],
    decode_miss rfl []⟩

end Sys2Proof
end

section
/-! The loads that step HL, the 16-bit loads and the stack, INC and DEC, the returns and the system instructions
(R507 to R510, R600 to R611, R734 to R737, R1030 to R1032, R1100 to R1105): each instruction is one shared rule,
whose law says when it goes on. -/
namespace Sys2Proof.Machine

open Sys2Proof

variable {s : State} {a delta w : Word} {cost : Nat}

/-! ### Loads that step HL -/

/-- HL still holds the address that was read when it steps, since the load writes A. -/
theorem load8Step_readBus (hhl : s.Holds [.h, .l]) (ha : s.Admits (s.reg16 .hl)) :
    load8Step (.ind .hl) (.reg .a) delta cost s =
      .next ((((s.afterRead (s.reg16 .hl)).setReg8 .a (s.readVal (s.reg16 .hl))).setReg16 .hl
        (s.reg16 .hl + delta)).owing (cost - 1)) := by
  have hold : ((s.afterRead (s.reg16 .hl)).setReg8 .a (s.readVal (s.reg16 .hl))).reg16 .hl = s.reg16 .hl :=
    State.afterRead_reg16 s _ .hl
  refine load8Step_next.2 ⟨hhl, (admitsOpt_some s _).2 ha, holds_nil s, admitsOpt_none s, fun n hn hu => ?_, ?_⟩
  · have hu' : n ∈ ((s.afterRead (s.reg16 .hl)).setReg8 .a (s.readVal (s.reg16 .hl))).unwritten := hu
    rw [State.setReg8_unwritten, State.afterRead_unwritten] at hu'
    exact hhl n hn (List.mem_of_mem_filter hu')
  · exact congrArg (fun v => (State.setReg16 _ .hl (v + delta)).owing (cost - 1)) hold.symm

theorem load8Step_writeBus (hA : s.Holds [.a]) (hhl : s.Holds [.h, .l]) (ha : s.Admits (s.reg16 .hl)) :
    load8Step (.reg .a) (.ind .hl) delta cost s =
      .next (((s.afterWrite (s.reg16 .hl) s.a).setReg16 .hl (s.reg16 .hl + delta)).owing (cost - 1)) := by
  refine load8Step_next.2 ⟨hA, admitsOpt_none s, hhl, (admitsOpt_some s _).2 ha, (holds_afterWrite s _ _ _).2 hhl, ?_⟩
  exact congrArg (fun v => (State.setReg16 _ .hl (v + delta)).owing (cost - 1))
    (State.afterWrite_reg16 s _ _ .hl).symm

/-- Settles O5: the four forms are two rules, which add 1 or -1 to the HL they used. -/
theorem loadAndStepHL : Obligations.LoadAndStepHL := by
  intro s
  refine ⟨rfl, rfl, rfl, rfl, rfl, rfl, rfl, rfl, fun hhl ha => ?_, fun h ha => ?_⟩
  · rw [exec_ldAMemHLInc, exec_ldAMemHLDec, BitVec.sub_eq_add_neg]
    exact ⟨load8Step_readBus hhl ha, load8Step_readBus hhl ha⟩
  · obtain ⟨hA, hhl⟩ := holds_cons.1 h
    rw [exec_ldMemHLIncA, exec_ldMemHLDecA, BitVec.sub_eq_add_neg]
    exact ⟨load8Step_writeBus hA hhl ha, load8Step_writeBus hA hhl ha⟩

/-! ### 16-bit loads and the stack -/

theorem encode_ldPairN16 (p : RP) (n : Word) :
    encode (ldPairN16 p n) = [opByte 0 (2 * p.code) 1, loByte n, hiByte n] := by cases p <;> rfl
theorem tableRow_ldPairN16 (p : RP) (n : Word) : tableRow (ldPairN16 p n) = row [.imm16] [.reg p.any] 3 3 := by
  cases p <;> rfl

theorem encode_pushPair (q : RP2) : encode (pushPair q) = [opByte 3 (2 * q.code) 5] := by cases q <;> rfl
theorem tableRow_pushPair (q : RP2) : tableRow (pushPair q) = row [.reg q.any] [] 1 4 := by cases q <;> rfl

theorem encode_popPair (q : RP2) : encode (popPair q) = [opByte 3 (2 * q.code) 1] := by cases q <;> rfl
theorem tableRow_popPair (q : RP2) : tableRow (popPair q) = row [] [.reg q.any] 1 3 := by cases q <;> rfl

/-- A read of slots that hold values gives what is there. -/
theorem readReg16_of_holds {rr : Reg16} (h : s.Holds (reg16Names rr)) : readReg16 rr s = .next (s.reg16 rr) :=
  readReg16_next.2 ⟨h, rfl⟩

/-- A word whose second byte the window refuses: the first byte stands written. -/
theorem busWrite16_second_blocked (ha : s.Admits a)
    (hb : (s.afterWrite a (loByte w)).busBlocked (a + 1) = true) :
    busWrite16 a w s = .refused (.dmaBusConflict ((s.afterWrite a (loByte w)).refused .dmaBusConflict)) := by
  rw [busWrite16, busWrite_next.2 ⟨ha, rfl⟩, Result.next_andThen, busWrite_blocked hb]

/-- `LD (a16),SP` where the bus refuses its second byte. -/
theorem storeSP_second_blocked (hsp : s.Holds [.sp]) (ha : s.Admits a)
    (hb : (s.afterWrite a (loByte s.sp)).busBlocked (a + 1) = true) :
    exec (.ldMemA16SP a) s =
      .refused (.dmaBusConflict ((s.afterWrite a (loByte s.sp)).refused .dmaBusConflict)) := by
  rw [exec_ldMemA16SP, load16, resolveSource16, readReg16_of_holds (rr := .sp) hsp, Result.next_andThen,
    resolveTarget16, writeHandle16, State.reg16_sp, busWrite16_second_blocked ha hb, Result.refused_andThen]

/-- Settles O7: the 16-bit load by its operand forms; a store to 0xFF46 opens the window in front of its second
byte, and 0xFF47 lies outside HRAM. -/
theorem loadPairAndStoreSP : Obligations.LoadPairAndStoreSP := by
  intro p n s
  refine ⟨encode_ldPairN16 p n, rfl, rfl, tableRow_ldPairN16 p n, rfl, rfl, ?_, fun hhl => ?_, fun hsp hn => ?_,
    fun hsp ha hn => ?_⟩
  · rw [exec_ldPairN16]
    exact load16_imm_next.2 rfl
  · rw [exec_ldSPHL]
    exact load16_reg_next.2 ⟨hhl, rfl⟩
  · rw [exec_ldMemA16SP]
    exact load16_store_next.2 ⟨hsp, hn, rfl⟩
  · subst hn
    exact storeSP_second_blocked hsp ha (busBlocked_after_dma s _ _ (by decide))

/-- Settles O9: the rules of PUSH and POP, where the stack admits both bytes. -/
theorem pushAndPop : Obligations.PushAndPop := by
  intro q s
  refine ⟨encode_pushPair q, encode_popPair q, tableRow_pushPair q, tableRow_popPair q, fun hq hp => ?_,
    fun hp => ?_⟩
  · rw [exec_pushPair]
    exact push_next.2 ⟨hq, hp, rfl⟩
  · rw [exec_popPair]
    exact pop_next.2 ⟨hp, rfl⟩

/-! ### INC and DEC -/

theorem encode_incReg (dst : Reg8) : encode (incReg dst) = [opByte 0 dst.code 4] := by cases dst <;> rfl
theorem tableRow_incReg (dst : Reg8) : tableRow (incReg dst) = row [.reg dst.any] [.reg dst.any] 1 1 := by
  cases dst <;> rfl

theorem encode_decReg (dst : Reg8) : encode (decReg dst) = [opByte 0 dst.code 5] := by cases dst <;> rfl
theorem tableRow_decReg (dst : Reg8) : tableRow (decReg dst) = row [.reg dst.any] [.reg dst.any] 1 1 := by
  cases dst <;> rfl

/-- The increment of R734 by remainders: the low four bits of the old value decide H (C2). -/
theorem inc8_eq (v : Byte) : inc8 v = ⟨v + 1, decide (v + 1 = 0), false, decide (v.toNat % 16 = 0x0F), false⟩ := by
  rw [inc8, lowNibble_eq]

theorem dec8_eq (v : Byte) : dec8 v = ⟨v - 1, decide (v - 1 = 0), true, decide (v.toNat % 16 = 0), false⟩ := by
  rw [dec8, lowNibble_eq]

variable {fn : Byte → AluOut} {out : AluOut} {r : Reg8}

theorem unary8_reg (hr : s.Holds [regName r]) (hout : fn (s.reg8 r) = out) :
    unary8 fn (.reg r) (.reg r) cost s =
      .next (((s.setReg8 r out.res).setFlags (some out.z) (some out.n) (some out.h) none).owing (cost - 1)) := by
  subst hout
  exact unary8_next.2 ⟨hr, admitsOpt_none s, holds_nil s, admitsOpt_none s, rfl⟩

theorem unary8_memHL (hhl : s.Holds [.h, .l]) (ha : s.Admits (s.reg16 .hl))
    (hout : fn (s.readVal (s.reg16 .hl)) = out) :
    unary8 fn (.ind .hl) (.ind .hl) cost s =
      .next ((((s.afterRead (s.reg16 .hl)).afterWrite (s.reg16 .hl) out.res).setFlags (some out.z) (some out.n)
        (some out.h) none).owing (cost - 1)) := by
  subst hout
  have hbus : s.AdmitsOpt (some (s.reg16 .hl)) := (admitsOpt_some s _).2 ha
  exact unary8_next.2 ⟨hhl, hbus, hhl, hbus, by rw [State.afterTgt_afterSrc_ind]; rfl⟩

/-- Settles O15: one shared rule with the function of the old value, on a register and on the byte at HL. -/
theorem incrementDecrement : Obligations.IncrementDecrement := by
  intro dst s v m s1
  refine ⟨encode_incReg dst, encode_decReg dst, rfl, rfl, tableRow_incReg dst, tableRow_decReg dst, rfl, rfl,
    fun hr => ?_, fun hhl ha => ?_⟩
  · rw [exec_incReg, exec_decReg]
    exact ⟨unary8_reg hr (inc8_eq v), unary8_reg hr (dec8_eq v)⟩
  · rw [exec_incMemHL, exec_decMemHL]
    exact ⟨unary8_memHL hhl ha (inc8_eq m), unary8_memHL hhl ha (dec8_eq m)⟩

/-! ### Returns -/

theorem encode_retCond (cc : Cond) : encode (retCond cc) = [opByte 3 cc.code 0] := by cases cc <;> rfl
theorem tableRow_retCond (cc : Cond) : tableRow (retCond cc) = row [] [] 1 5 (some 2) := by cases cc <;> rfl

/-- Settles O28: RET and RETI pop under one hypothesis on the stack, which a RET cc needs only when taken. -/
theorem returns : Obligations.Returns := by
  intro cc s
  refine ⟨rfl, encode_retCond cc, rfl, rfl, tableRow_retCond cc, rfl, fun hp => ⟨?_, ?_⟩, fun hcc hc hp => ?_,
    fun hcc hc => ?_⟩
  · rw [exec_ret]
    exact ret_next.2 ⟨hp, rfl⟩
  · rw [exec_reti]
    exact retInterrupt_next.2 ⟨hp, rfl⟩
  · rw [exec_retCond]
    exact retIf_next.2 ⟨hcc, by rw [if_pos hc]; exact ⟨hp, rfl⟩⟩
  · rw [exec_retCond]
    exact retIf_next.2 ⟨hcc, by rw [if_neg (ne_true_of_eq_false hc)]⟩

/-! ### System -/

/-- Settles O29: each of the three rules is one charge, after its writes to IME and `ime_sched`. -/
theorem nopAndInterruptEnable : Obligations.NopAndInterruptEnable := by
  intro s
  refine ⟨rfl, rfl, rfl, rfl, rfl, rfl, ?_, ?_, ?_⟩
  · rw [exec_nop]
    exact charge_next.2 rfl
  · rw [exec_di]
    exact charge_next.2 rfl
  · rw [exec_ei]
    exact charge_next.2 rfl

/-- Settles O30: the two branches of HALT, by IME and the answer of `pending_interrupt()`. -/
theorem haltOrRefuse : Obligations.HaltOrRefuse := by
  intro s
  refine ⟨rfl, rfl, ?_⟩
  rw [exec_halt]
  split
  · rename_i h
    rw [halt, if_pos]
    · rfl
    · rw [h.1, Bool.not_false, Bool.true_and, Option.isSome_iff_ne_none]
      exact h.2
  · rename_i h
    refine halt_next.2 ⟨?_, rfl⟩
    cases hi : s.ime
    · exact .inr (not_not.1 fun hq => h ⟨hi, hq⟩)
    · exact .inl rfl

/-- Settles O31: STOP refuses and an unassigned byte faults whatever the state, and the bytes have no entry. -/
theorem sessionEndingInstructions : Obligations.SessionEndingInstructions := by
  intro s opcode
  refine ⟨rfl, rfl, rfl, ?_, ?_, lookupPrimary_unassigned⟩
  · rw [exec_stop]
    rfl
  · rw [exec_unassigned]
    rfl

end Sys2Proof.Machine
end

section
/-! `PREFIX CB` (R330, R331, R1101): it reads the extended entry from the fields of the byte, where the extended
map lists the instruction. Every byte has its fields, so each claim about the 256 is one case for each of the
eight forms. -/
namespace Sys2Proof.Machine

open Sys2Proof

variable {s : State}

/-! ### The extended opcodes by their fields -/

theorem opByte_fields (v : Byte) : v = opByte (v.toNat / 64) (v.toNat / 8 % 8) (v.toNat % 8) := by
  apply BitVec.eq_of_toNat_eq
  have := v.isLt
  rw [opByte, BitVec.toNat_ofNat]
  omega

theorem Reg8.exists_code {z : Nat} (h : z < 8) : z = 6 ∨ ∃ r : Reg8, r.code = z := by
  interval_cases z
  · exact .inr ⟨.b, rfl⟩
  · exact .inr ⟨.c, rfl⟩
  · exact .inr ⟨.d, rfl⟩
  · exact .inr ⟨.e, rfl⟩
  · exact .inr ⟨.h, rfl⟩
  · exact .inr ⟨.l, rfl⟩
  · exact .inl rfl
  · exact .inr ⟨.a, rfl⟩

theorem RotOp.exists_code {y : Nat} (h : y < 8) : ∃ op : RotOp, op.code = y := by
  interval_cases y
  · exact ⟨.rlc, rfl⟩
  · exact ⟨.rrc, rfl⟩
  · exact ⟨.rl, rfl⟩
  · exact ⟨.rr, rfl⟩
  · exact ⟨.sla, rfl⟩
  · exact ⟨.sra, rfl⟩
  · exact ⟨.swap, rfl⟩
  · exact ⟨.srl, rfl⟩

/-- Every extended opcode is that of one of the eight forms. -/
theorem extended_forms {P : Byte → Prop}
    (h_rotReg : ∀ (op : RotOp) (r : Reg8), P (opByte 0 op.code r.code))
    (h_rotMem : ∀ op : RotOp, P (opByte 0 op.code 6))
    (h_bitReg : ∀ (b : Fin 8) (r : Reg8), P (opByte 1 b.val r.code))
    (h_bitMem : ∀ b : Fin 8, P (opByte 1 b.val 6))
    (h_resReg : ∀ (b : Fin 8) (r : Reg8), P (opByte 2 b.val r.code))
    (h_resMem : ∀ b : Fin 8, P (opByte 2 b.val 6))
    (h_setReg : ∀ (b : Fin 8) (r : Reg8), P (opByte 3 b.val r.code))
    (h_setMem : ∀ b : Fin 8, P (opByte 3 b.val 6)) : ∀ v, P v := by
  intro v
  rw [opByte_fields v]
  have hx : v.toNat / 64 < 4 := by have := v.isLt; omega
  have hy : v.toNat / 8 % 8 < 8 := Nat.mod_lt _ (by decide)
  have hz : v.toNat % 8 < 8 := Nat.mod_lt _ (by decide)
  generalize v.toNat / 64 = x at hx
  generalize v.toNat / 8 % 8 = y at hy
  generalize v.toNat % 8 = z at hz
  obtain ⟨op, rfl⟩ := RotOp.exists_code hy
  rcases Reg8.exists_code hz with rfl | ⟨r, rfl⟩ <;> interval_cases x
  · exact h_rotMem op
  · exact h_bitMem ⟨op.code, hy⟩
  · exact h_resMem ⟨op.code, hy⟩
  · exact h_setMem ⟨op.code, hy⟩
  · exact h_rotReg op r
  · exact h_bitReg ⟨op.code, hy⟩ r
  · exact h_resReg ⟨op.code, hy⟩ r
  · exact h_setReg ⟨op.code, hy⟩ r

/-! ### The extended map by its fields -/

theorem lookupExtended_rotReg (op : RotOp) (r : Reg8) : lookupExtended (opByte 0 op.code r.code) = rotReg op r := by
  cases op <;> cases r <;> rfl
theorem lookupExtended_rotMem (op : RotOp) : lookupExtended (opByte 0 op.code 6) = rotMem op := by
  cases op <;> rfl
theorem lookupExtended_bitReg (b : Fin 8) (r : Reg8) : lookupExtended (opByte 1 b.val r.code) = bitReg b r := by
  fin_cases b <;> cases r <;> rfl
theorem lookupExtended_bitMem (b : Fin 8) : lookupExtended (opByte 1 b.val 6) = bitMem b := by
  fin_cases b <;> rfl
theorem lookupExtended_resReg (b : Fin 8) (r : Reg8) : lookupExtended (opByte 2 b.val r.code) = resReg b r := by
  fin_cases b <;> cases r <;> rfl
theorem lookupExtended_resMem (b : Fin 8) : lookupExtended (opByte 2 b.val 6) = resMem b := by
  fin_cases b <;> rfl
theorem lookupExtended_setReg (b : Fin 8) (r : Reg8) : lookupExtended (opByte 3 b.val r.code) = setReg b r := by
  fin_cases b <;> cases r <;> rfl
theorem lookupExtended_setMem (b : Fin 8) : lookupExtended (opByte 3 b.val 6) = setMem b := by
  fin_cases b <;> rfl

/-- The fields select the rule, the costs and the operands that the map's instruction has. -/
theorem runExtended_eq (op2 : Byte) (s : State) : runExtended op2 s = exec (lookupExtended op2) s := by
  induction op2 using extended_forms with
  | h_rotReg op r => rw [lookupExtended_rotReg, exec_rotReg]; cases op <;> cases r <;> rfl
  | h_rotMem op => rw [lookupExtended_rotMem, exec_rotMem]; cases op <;> rfl
  | h_bitReg b r => rw [lookupExtended_bitReg, exec_bitReg]; fin_cases b <;> cases r <;> rfl
  | h_bitMem b => rw [lookupExtended_bitMem, exec_bitMem]; fin_cases b <;> rfl
  | h_resReg b r => rw [lookupExtended_resReg, exec_resReg]; fin_cases b <;> cases r <;> rfl
  | h_resMem b => rw [lookupExtended_resMem, exec_resMem]; fin_cases b <;> rfl
  | h_setReg b r => rw [lookupExtended_setReg, exec_setReg]; fin_cases b <;> cases r <;> rfl
  | h_setMem b => rw [lookupExtended_setMem, exec_setMem]; fin_cases b <;> rfl

/-! ### Completion -/

/-- With every slot written any read of slots goes on. -/
theorem holds_of_allWritten (h : s.AllWritten) (ns : List RegName) : s.Holds ns := by
  intro n _ hn
  rw [h] at hn
  cases hn

/-- With the DMA window closed every access is admitted. -/
theorem admits_of_closed (h : s.dmaWindow = 0) (a : Word) : s.Admits a := by
  simp [State.Admits, State.busBlocked, h]

theorem admitsOpt_of_closed (h : s.dmaWindow = 0) (a : Option Word) : s.AdmitsOpt a :=
  fun w _ => admits_of_closed h w

theorem exec_lookupExtended_completes (hw : s.AllWritten) (hd : s.dmaWindow = 0) (op2 : Byte) :
    ∃ t, exec (lookupExtended op2) s = .next t := by
  have hs := holds_of_allWritten hw
  have ha := admitsOpt_of_closed hd
  induction op2 using extended_forms with
  | h_rotReg op r =>
    rw [lookupExtended_rotReg, exec_rotReg]
    exact ⟨_, rot8_next.2 ⟨hs _, ha _, hs _, fun _ => hs _, ha _, rfl⟩⟩
  | h_rotMem op =>
    rw [lookupExtended_rotMem, exec_rotMem]
    exact ⟨_, rot8_next.2 ⟨hs _, ha _, hs _, fun _ => hs _, ha _, rfl⟩⟩
  | h_bitReg b r =>
    rw [lookupExtended_bitReg, exec_bitReg]
    exact ⟨_, bitTest_next.2 ⟨hs _, ha _, rfl⟩⟩
  | h_bitMem b =>
    rw [lookupExtended_bitMem, exec_bitMem]
    exact ⟨_, bitTest_next.2 ⟨hs _, ha _, rfl⟩⟩
  | h_resReg b r =>
    rw [lookupExtended_resReg, exec_resReg]
    exact ⟨_, bitReset_next.2 ⟨hs _, ha _, hs _, ha _, rfl⟩⟩
  | h_resMem b =>
    rw [lookupExtended_resMem, exec_resMem]
    exact ⟨_, bitReset_next.2 ⟨hs _, ha _, hs _, ha _, rfl⟩⟩
  | h_setReg b r =>
    rw [lookupExtended_setReg, exec_setReg]
    exact ⟨_, bitSet_next.2 ⟨hs _, ha _, hs _, ha _, rfl⟩⟩
  | h_setMem b =>
    rw [lookupExtended_setMem, exec_setMem]
    exact ⟨_, bitSet_next.2 ⟨hs _, ha _, hs _, ha _, rfl⟩⟩

/-- Settles O32: the rule of `PREFIX CB` is that of the map's instruction, which meets no unwritten slot and no
closed bus. -/
theorem prefixRunsExtended : Obligations.PrefixRunsExtended := by
  intro op2 s
  rw [exec_prefixCB, runExtended_eq]
  exact ⟨rfl, rfl, fun hw hd => exec_lookupExtended_completes hw hd op2⟩

end Sys2Proof.Machine
end

section
/-! The register file (R101 to R104, R121, R141) and the bus (R201 to R235): what each write changes, the policy
of each region, and words and the stack in plain RAM. -/
namespace Sys2Proof.Machine

open Sys2Proof

variable {s : State} {a b : Word} {v : Byte}

/-! ### The register file -/

theorem Flags.toByte_toNat (f : Flags) :
    f.toByte.toNat = 128 * f.z.toNat + 64 * f.n.toNat + 32 * f.h.toNat + 16 * f.c.toNat := by
  obtain ⟨z, n, h, c⟩ := f
  cases z <;> cases n <;> cases h <;> cases c <;> rfl

@[simp] theorem Flags.ofByte_toByte (f : Flags) : Flags.ofByte f.toByte = f := by
  obtain ⟨z, n, h, c⟩ := f
  cases z <;> cases n <;> cases h <;> cases c <;> rfl

/-- F keeps bits 7 to 4 of a byte written to it (R121). -/
theorem Flags.toByte_ofByte_toNat (v : Byte) : (Flags.ofByte v).toByte.toNat = v.toNat / 16 * 16 := by
  have := v.isLt
  simp only [Flags.toByte_toNat, Flags.ofByte, BitVec.getLsbD, Nat.toNat_testBit]
  omega

theorem toNat_and_FFF0 (w : Word) : (w &&& 0xFFF0#16).toNat = w.toNat / 16 * 16 := by
  have h : w &&& 0xFFF0#16 = (w >>> 4) <<< 4 := by
    apply BitVec.eq_of_getLsbD_eq
    intro i hi
    interval_cases i <;> simp
  have := w.isLt
  rw [h, BitVec.toNat_shiftLeft, BitVec.toNat_ushiftRight, Nat.shiftRight_eq_div_pow, Nat.shiftLeft_eq]
  omega

/-- A write to a pair gives the word back, AF without the low four bits. -/
theorem State.setReg16_reg16 (s : State) (rr : Reg16) (w : Word) :
    (s.setReg16 rr w).reg16 rr = if rr = .af then w &&& 0xFFF0 else w := by
  cases rr with
  | af =>
    apply BitVec.eq_of_toNat_eq
    have : (w &&& 0xFFF0).toNat = w.toNat / 16 * 16 := toNat_and_FFF0 w
    have := w.isLt
    simp only [State.setReg16, State.reg16, wordOf_toNat, Flags.toByte_ofByte_toNat, hiByte_toNat, loByte_toNat,
      if_true]
    omega
  | bc => exact wordOf_bytes w
  | de => exact wordOf_bytes w
  | hl => exact wordOf_bytes w
  | sp => rfl

/-- The word a pair holds is one a write keeps whole. -/
theorem State.setReg16_reg16_self (s t : State) (rr : Reg16) : (t.setReg16 rr (s.reg16 rr)).reg16 rr = s.reg16 rr := by
  cases rr <;> simp [State.setReg16, State.reg16]

theorem State.setReg16_reg8_of_notMem (s : State) {rr : Reg16} {q : Reg8} (h : regName q ∉ reg16Names rr) (w : Word) :
    (s.setReg16 rr w).reg8 q = s.reg8 q := by
  revert h
  cases rr <;> cases q <;> simp [State.setReg16, State.reg8, regName, reg16Names]

theorem State.setReg16_sp_of_ne (s : State) {rr : Reg16} (h : rr ≠ .sp) (w : Word) :
    (s.setReg16 rr w).sp = s.sp := by
  cases rr with
  | sp => exact absurd rfl h
  | _ => rfl

theorem State.setReg16_flags_of_ne (s : State) {rr : Reg16} (h : rr ≠ .af) (w : Word) :
    (s.setReg16 rr w).flags = s.flags := by
  cases rr with
  | af => exact absurd rfl h
  | _ => rfl

/-- Settles O33: each update of the register file by its law. -/
theorem registerFile : Obligations.RegisterFile := by
  intro s r q v w
  refine ⟨s.setReg8_reg8 r q v, s.setReg8_flags r v, s.setReg8_sp r v, fun n => ?_, wordOf_toNat _ _,
    wordOf_toNat _ _, wordOf_toNat _ _, ?_, s.setReg16_reg16 .bc w, s.setReg16_reg16 .de w, s.setReg16_reg16 .hl w,
    rfl, s.setReg16_reg16 .af w, fun rr h => s.setReg16_reg8_of_notMem h w, fun rr h => s.setReg16_sp_of_ne h w,
    fun rr h => s.setReg16_flags_of_ne h w, fun rr n => ?_⟩
  · simp
  · rw [← Flags.toByte_toNat]
    exact wordOf_toNat _ _
  · simp

/-! ### The address map -/

/-- The first and the last address of each range (R202). -/
def Region.bounds : Region → Nat × Nat
  | .rom => (0x0000, 0x7FFF)
  | .vram => (0x8000, 0x9FFF)
  | .cartRam => (0xA000, 0xBFFF)
  | .wram => (0xC000, 0xDFFF)
  | .echo => (0xE000, 0xFDFF)
  | .oam => (0xFE00, 0xFE9F)
  | .unusable => (0xFEA0, 0xFEFF)
  | .io => (0xFF00, 0xFF7F)
  | .hram => (0xFF80, 0xFFFE)
  | .ie => (0xFFFF, 0xFFFF)

theorem region_bounds (a : Word) : (region a).bounds.1 ≤ a.toNat ∧ a.toNat ≤ (region a).bounds.2 := by
  have h := region_spec a
  cases hr : region a <;> rw [hr] at h <;> simp only [Region.bounds] at h ⊢ <;> omega

/-- The ranges are disjoint: one that holds the address is its region. -/
theorem region_eq_iff {r : Region} : region a = r ↔ r.bounds.1 ≤ a.toNat ∧ a.toNat ≤ r.bounds.2 := by
  refine ⟨fun h => h ▸ region_bounds a, fun h => ?_⟩
  have hb := region_bounds a
  cases hr : region a <;> rw [hr] at hb <;> cases r <;>
    simp only [Region.bounds, reduceCtorEq] at h hb ⊢ <;> omega

/-- Settles O36: an address is in a range exactly if it is within the bounds, and the table of owners. -/
theorem addressMap : Obligations.AddressMap := by
  intro a
  have := a.isLt
  refine ⟨?_, ?_, ?_, ?_, ?_, ?_, ?_, ?_, ?_, ?_, rfl, rfl, rfl, rfl, rfl, rfl, rfl, rfl, rfl, rfl⟩ <;>
    rw [region_eq_iff, Region.bounds] <;> omega

theorem isRam_iff : isRam a = true ↔ region a = .wram ∨ region a = .echo ∨ region a = .hram := by
  unfold isRam
  cases region a <;> simp

/-- The WRAM address below an echo address, which names the same cell (R223). -/
theorem region_below_echo (h : region a = .echo) :
    region (a - 0x2000) = .wram ∧ cellOf (a - 0x2000) = cellOf a ∧ cellOf a = a.toNat - 0x2000 := by
  obtain ⟨hlo, hhi⟩ : 0xE000 ≤ a.toNat ∧ a.toNat ≤ 0xFDFF := region_eq_iff.1 h
  have hsub : (a - 0x2000).toNat = a.toNat - 0x2000 := by bv_omega
  have hw : region (a - 0x2000) = .wram := region_eq_iff.2 (by rw [hsub, Region.bounds]; omega)
  refine ⟨hw, ?_, ?_⟩
  · rw [cellOf_eq, cellOf_eq, hw, h, hsub, if_neg (by decide), if_pos rfl]
  · rw [cellOf_eq, h, if_pos rfl]

/-- Neighbours in plain RAM have cells of their own. -/
theorem cellOf_succ_ne (h : isRam a = true) (h' : isRam (a + 1) = true) : cellOf (a + 1) ≠ cellOf a := by
  have ha := region_spec a
  have hb := region_spec (a + 1)
  have hsucc : (a + 1).toNat = (a.toNat + 1) % 65536 := by bv_omega
  rw [cellOf_eq, cellOf_eq]
  rcases isRam_iff.1 h with h | h | h <;> rcases isRam_iff.1 h' with h' | h' | h' <;> rw [h, h'] <;>
    rw [h] at ha <;> rw [h'] at hb <;> simp only [reduceCtorEq, if_true, if_false] <;> simp only at ha hb <;> omega

/-! ### The policies of the regions -/

theorem readVal_afterWrite_ram (s : State) {b : Word} (hb : isRam b = true) (ha : isRam a = true)
    (h : cellOf b = cellOf a) (v : Byte) : (s.afterWrite b v).readVal a = v :=
  (read_ram ha (stored_afterWrite_eq s b a v hb h)).1

/-- Plain RAM that holds no byte reads as a draw (R223, R224). -/
theorem read_ram_unwritten (ha : isRam a = true) (h : s.stored a = none) :
    s.readVal a = Config.drawByte s.draws ∧ s.afterRead a = { s with draws := s.draws + 1 } := by
  rcases isRam_iff.1 ha with hr | hr | hr <;> simp [State.readVal, State.afterRead, hr, h]

/-- A locked VRAM or OAM access is IDLE_VALUE and stores nothing, any other reads what is stored (R225). -/
theorem video_policy (s : State) (v : Byte) (hr : region a = .vram ∨ region a = .oam) :
    if Config.drawLocked s.draws then s.readVal a = 0xFF ∧ (s.afterWrite a v).mem = s.mem
    else (s.afterWrite a v).stored a = some v ∧ ∀ b, s.stored a = some b → s.readVal a = b := by
  split
  · rename_i hl
    rcases hr with hr | hr <;> simp [State.readVal, State.afterWrite, hr, hl, Config.idleValue]
  · rename_i hl
    refine ⟨?_, fun b hb => ?_⟩
    · rw [State.stored, afterWrite_mem, if_pos (.inr ⟨hr, by simpa using hl⟩), Memory.lookup_store, if_pos rfl]
    · rcases hr with hr | hr <;> simp [State.readVal, hr, hl, hb]

theorem afterRead_video (s : State) (hr : region a = .vram ∨ region a = .oam) :
    ∃ k, s.afterRead a = { s with draws := s.draws + k } := by
  rcases hr with hr | hr <;> simp only [State.afterRead, hr] <;> split <;> exact ⟨_, rfl⟩

/-- An access to the I/O block or IE keeps no byte: a read is a draw and an event, a write an event, which at
0xFF46 also opens the DMA window (R227, R235, R137). -/
theorem io_policy (s : State) (v : Byte) (hr : region a = .io ∨ region a = .ie) :
    s.readVal a = Config.drawByte s.draws ∧
    s.afterRead a = { s with draws := s.draws + 1, events := .ioRead a (s.readVal a) s.tick :: s.events } ∧
    (a ≠ 0xFF46#16 → s.afterWrite a v = { s with events := .ioWrite a v s.tick :: s.events }) ∧
    (a = 0xFF46#16 → s.afterWrite a v =
      { s with
        events := .ioWrite a v s.tick :: s.events
        dmaWindow := 161
        mem := Memory.forgetOam s.mem }) := by
  refine ⟨?_, ?_, fun hne => ?_, fun he => ?_⟩
  · rcases hr with hr | hr <;> simp [State.readVal, hr]
  · rcases hr with hr | hr <;> simp [State.afterRead, hr]
  · rcases hr with hr | hr <;> simp [State.afterWrite, hr, hne]
  · rcases hr with hr | hr <;> simp [State.afterWrite, hr, if_pos he, Config.dmaWindow]

/-- Settles O35: one clause for each policy of the map. -/
theorem regionPolicies : Obligations.RegionPolicies := by
  intro s a v
  refine ⟨fun h => ?_, fun h => ?_, fun h => ⟨?_, fun b hb hne => ?_, fun b hb => read_ram h hb,
    read_ram_unwritten h⟩, fun h => ?_, fun h => ⟨afterRead_video s h, video_policy s v h⟩, fun h => ?_,
    io_policy s v⟩
  · simp [State.afterWrite, State.afterRead, State.readVal, h]
  · simp [State.afterWrite, State.afterRead, State.readVal, h, Config.idleValue]
  · exact readVal_afterWrite_ram s h h rfl v
  · exact stored_afterWrite_ne s a b v hne.symm fun he => absurd he (isRam_ne_dma h)
  · simp [State.afterWrite, State.afterRead, State.readVal, h]
  · obtain ⟨hw, hcell, hval⟩ := region_below_echo h
    have hRam : isRam a = true := isRam_iff.2 (.inr (.inl h))
    have hRamW : isRam (a - 0x2000) = true := isRam_iff.2 (.inl hw)
    exact ⟨hval, readVal_afterWrite_ram s hRam hRamW hcell.symm v, readVal_afterWrite_ram s hRamW hRam hcell v⟩

/-- Settles O37: the events and the window of the I/O policy. -/
theorem ioAccess : Obligations.IoAccess := by
  intro s a v h
  obtain ⟨-, hread, hwrite, hdma⟩ := io_policy s v h
  refine ⟨by rw [hread], s.afterRead_mem a, ?_, fun hne => by rw [hwrite hne]; exact ⟨rfl, rfl⟩,
    fun he => by rw [hdma he]; exact ⟨rfl, rfl⟩⟩
  by_cases he : a = 0xFF46#16
  · rw [hdma he]
  · rw [hwrite he]

/-! ### Words in plain RAM -/

theorem afterWrite_closed (hd : s.dmaWindow = 0) (h : isRam a = true) (v : Byte) :
    (s.afterWrite a v).dmaWindow = 0 := by
  rw [afterWrite_dmaWindow, if_neg (isRam_ne_dma h), hd]

/-- A byte written to plain RAM outlives a write to another cell of it. -/
theorem stored_afterWrite_afterWrite (s : State) (ha : isRam a = true) (hb : isRam b = true)
    (hne : cellOf b ≠ cellOf a) (v w : Byte) : ((s.afterWrite a v).afterWrite b w).stored a = some v := by
  rw [stored_afterWrite_ne _ _ _ _ hne fun he => absurd he (isRam_ne_dma hb)]
  exact stored_afterWrite_eq s a a v ha rfl

/-- A bus read of plain RAM that holds a byte, the window closed. -/
theorem busRead_ram (hd : s.dmaWindow = 0) (h : isRam a = true) (hv : s.stored a = some v) :
    busRead a s = .next (v, s) := by
  obtain ⟨h1, h2⟩ := read_ram h hv
  exact busRead_next.2 ⟨admits_of_closed hd a, by rw [h1, h2]⟩

/-- Settles O38: neighbours have cells of their own, so neither write undoes the other. -/
theorem littleEndianWords : Obligations.LittleEndianWords := by
  intro s a w hd ha ha1
  have hne := cellOf_succ_ne ha ha1
  have hready : s.Store16Ready a := ⟨admits_of_closed hd _, admits_of_closed hd _, isRam_ne_dma ha⟩
  have hdt := afterWrite_closed (afterWrite_closed hd ha (loByte w)) ha1 (hiByte w)
  have hlo := busRead_ram hdt ha (stored_afterWrite_afterWrite s ha ha1 hne (loByte w) (hiByte w))
  have hhi := busRead_ram hdt ha1 (stored_afterWrite_eq _ _ _ (hiByte w) ha1 rfl)
  refine ⟨_, busWrite16_next.2 ⟨hready, rfl⟩, hlo, hhi, ?_⟩
  refine Result.andThen_next.2 ⟨_, hlo, Result.andThen_next.2 ⟨_, hhi, ?_⟩⟩
  simp only [wordOf_bytes]

end Sys2Proof.Machine
end

section
/-! Two consequences of the rules: a pair pushed to plain RAM pops back (R10, R610, R611), and `ADD A,r` with
`DAA` adds packed BCD (R710, R740). -/
namespace Sys2Proof.Machine

open Sys2Proof

variable {s : State} {v : Word}

/-! ### A word on the stack -/

/-- With SP - 1 and SP - 2 in plain RAM and the window closed, a push completes. -/
theorem pushReady_of_ram (hsp : s.Holds [.sp]) (hd : s.dmaWindow = 0) (h1 : isRam (s.sp - 1) = true) :
    s.PushReady := by
  refine ⟨hsp, admits_of_closed hd _, admits_of_closed hd _, fun he => isRam_ne_dma h1 ?_⟩
  rw [he]
  rfl

/-- What a push to plain RAM leaves: the word high byte above low byte, SP at the low byte, the window closed. -/
theorem afterPush_ram (hd : s.dmaWindow = 0) (h1 : isRam (s.sp - 1) = true) (h2 : isRam (s.sp - 2) = true) (v : Word) :
    (s.afterPush v).sp = s.sp - 2 ∧ (s.afterPush v).dmaWindow = 0 ∧
      (s.afterPush v).stored (s.sp - 1) = some (hiByte v) ∧ (s.afterPush v).stored (s.sp - 2) = some (loByte v) := by
  have hsucc : s.sp - 2 + 1 = s.sp - 1 := by bv_omega
  have hne := cellOf_succ_ne h2 (hsucc ▸ h1)
  rw [hsucc] at hne
  refine ⟨?_, ?_, ?_, stored_afterWrite_eq _ _ _ _ h2 rfl⟩
  · rw [State.afterPush, State.afterWrite_sp, State.setSp_sp]
  · refine afterWrite_closed ?_ h2 _
    rw [State.setReg16_dmaWindow]
    exact afterWrite_closed (by rw [State.setReg16_dmaWindow, hd]) h1 _
  · rw [State.afterPush, stored_afterWrite_ne _ _ _ _ hne.symm fun he => absurd he (isRam_ne_dma h2),
      stored_setReg16]
    exact stored_afterWrite_eq _ _ _ _ h1 rfl

/-- A word that stands at SP in plain RAM is what a pop gives. -/
theorem popVal_ram (h0 : isRam s.sp = true) (h1 : isRam (s.sp + 1) = true) (hlo : s.stored s.sp = some (loByte v))
    (hhi : s.stored (s.sp + 1) = some (hiByte v)) : s.popVal = v := by
  obtain ⟨hv, hs⟩ := read_ram h0 hlo
  rw [State.popVal, hs, hv, (read_ram h1 hhi).1, wordOf_bytes]

theorem afterPop_sp (s : State) : s.afterPop.sp = s.sp + 2 := rfl

/-- Settles O10: the bytes of the push are those the pop reads, and each pair gives back the word it held. -/
theorem pushThenPop : Obligations.PushThenPop := by
  intro q s hs hd h1 h2
  obtain ⟨hsp, hq⟩ := holds_cons.1 hs
  obtain ⟨htsp, htd, hthi, htlo⟩ := afterPush_ram hd h1 h2 (s.reg16 q.reg16)
  have hne : q.reg16 ≠ .sp := by cases q <;> decide
  have hsucc : s.sp - 2 + 1 = s.sp - 1 := by bv_omega
  let t := (s.afterPush (s.reg16 q.reg16)).owing 3
  have hts : t.sp = s.sp - 2 := htsp
  have hpop : t.PopReady := by
    refine ⟨fun n hn hu => ?_, admits_of_closed htd _, admits_of_closed htd _⟩
    have hu' : n ∈ (s.afterPush (s.reg16 q.reg16)).unwritten := hu
    exact hsp n hn ((Quiet.refl s).afterPush _ |>.unwritten n hu')
  have hts1 : t.sp + 1 = s.sp - 1 := by rw [hts, hsucc]
  have hval : t.popVal = s.reg16 q.reg16 :=
    popVal_ram (by rw [hts]; exact h2) (by rw [hts1]; exact h1) (by rw [hts]; exact htlo) (by rw [hts1]; exact hthi)
  refine ⟨t, (t.afterPop.setReg16 q.reg16 t.popVal).owing 2, ?_, ?_, hts, hthi, htlo, ?_, ?_⟩
  · rw [exec_pushPair]
    exact push_next.2 ⟨hq, pushReady_of_ram hsp hd h1, rfl⟩
  · rw [exec_popPair]
    exact pop_next.2 ⟨hpop, rfl⟩
  · rw [hval]
    exact State.setReg16_reg16_self s t.afterPop q.reg16
  · rw [State.owing_sp, State.setReg16_sp_of_ne _ hne, afterPop_sp, hts]
    bv_omega

/-! ### Packed BCD -/

/-- The decimal adjust of the sum of the digits p q and r t, over the integers: 0x60 corrects the tens and 0x06
the units, each where its digits pass 9. -/
theorem decimal_sum {p q r t : Nat} {high low : Bool} (hp : p < 10) (hq : q < 10) (hr : r < 10) (ht : t < 10)
    (hhigh : high = true ↔ 99 < 10 * p + q + (10 * r + t)) (hlow : low = true ↔ 9 < q + t) :
    ((16 * p + q + (16 * r + t)) % 256 + (0x60 * high.toNat + 0x06 * low.toNat)) % 256 =
      (10 * p + q + (10 * r + t)) % 100 / 10 * 16 + (q + t) % 10 := by
  have hunits : q + t = (q + t) % 10 + 10 * low.toNat := by
    cases low <;> simp only [Bool.toNat_false, Bool.toNat_true, Bool.false_eq_true, false_iff, true_iff] at hlow ⊢ <;>
      omega
  have htens : p + r + low.toNat = (10 * p + q + (10 * r + t)) % 100 / 10 + 10 * high.toNat := by
    cases high <;> simp only [Bool.toNat_false, Bool.toNat_true, Bool.false_eq_true, false_iff, true_iff] at hhigh ⊢ <;>
      omega
  have hbound : (10 * p + q + (10 * r + t)) % 100 / 10 < 10 := by omega
  generalize (10 * p + q + (10 * r + t)) % 100 / 10 = d at htens hbound ⊢
  clear hhigh hlow
  omega

/-- The two corrections have no bit in common. -/
theorem correction_toNat (high low : Bool) :
    ((if high then 0x60 else 0x00) ||| (if low then 0x06 else 0x00) : Byte).toNat =
      0x60 * high.toNat + 0x06 * low.toNat := by
  cases high <;> cases low <;> rfl

/-- What DAA tests after the addition of two packed BCD bytes: whether their tens and their units pass 9. -/
theorem add8_digits {a v : Byte} {p q r t : Nat} (hq : q < 10) (ht : t < 10)
    (ha : a.toNat = 16 * p + q) (hv : v.toNat = 16 * r + t) :
    (((add8 a v false).c || decide (0x99 < (add8 a v false).res.toNat)) = true ↔
        99 < 10 * p + q + (10 * r + t)) ∧
      (((add8 a v false).h || decide (0x09 < (add8 a v false).res.toNat % 16)) = true ↔ 9 < q + t) := by
  rw [Bool.or_eq_true, Bool.or_eq_true, decide_eq_true_iff, decide_eq_true_iff, add8_c, add8_h, add8_res_toNat, ha,
    hv, Bool.toNat_false]
  constructor <;> omega

/-- `ADD A,r` as DAA finds it. -/
theorem addRegister_next {src : Reg8} (hs : s.Holds [regName src, .a]) :
    ∃ t, exec (aluReg .add src) s = .next t ∧ t.Holds [.a, .fn, .fh, .fc] ∧ t.flags.n = false ∧
      t.a = (add8 s.a (s.reg8 src) false).res ∧ t.flags.h = (add8 s.a (s.reg8 src) false).h ∧
      t.flags.c = (add8 s.a (s.reg8 src) false).c := by
  obtain ⟨-, -, hadd⟩ := aluRegister .add src s
  refine ⟨_, hadd hs nofun, by simp [State.Holds, flagNames], ?_, ?_, ?_, ?_⟩
  · rw [State.owing_flags, State.setFlags_flagN, keepOr_some]
    rfl
  · rw [State.owing_a, State.setFlags_a, if_neg (by decide), State.setReg8_a, if_pos rfl]
    rfl
  · rw [State.owing_flags, State.setFlags_flagH, keepOr_some]
    rfl
  · rw [State.owing_flags, State.setFlags_flagC, keepOr_some]
    rfl

/-- DAA after an addition, as far as A and C. -/
theorem daa_next_of_addition (hs : s.Holds [.a, .fn, .fh, .fc]) (hn : s.flags.n = false) :
    ∃ u, exec .daa s = .next u ∧ u.flags.c = (s.flags.c || decide (0x99 < s.a.toNat)) ∧
      u.a = s.a + ((if s.flags.c || decide (0x99 < s.a.toNat) then 0x60 else 0x00) |||
        (if s.flags.h || decide (0x09 < s.a.toNat % 16) then 0x06 else 0x00)) := by
  obtain ⟨-, -, hdaa, -⟩ := decimalAdjust_daa s
  refine ⟨_, hdaa hs hn, ?_, ?_⟩
  · rw [State.owing_flags, State.setFlags_flagC, keepOr_some]
  · rw [State.owing_a, State.setFlags_a, State.setReg8_a, if_pos rfl]

/-- Settles O17: the flags that ADD leaves are the digit carries that DAA corrects by. -/
theorem decimalAddition : Obligations.DecimalAddition := by
  intro src s x y hs hx hy ha hv
  obtain ⟨hA, hsrc⟩ := holds_cons.1 hs
  obtain ⟨t, ht, htw, htn, hta, hth, htc⟩ := addRegister_next (holds_cons.2 ⟨hsrc, hA⟩)
  obtain ⟨u, hu, huc, hua⟩ := daa_next_of_addition htw htn
  have hq : x % 10 < 10 := by omega
  have hr : y % 10 < 10 := by omega
  have ha' : s.a.toNat = 16 * (x / 10) + x % 10 := by omega
  have hv' : (s.reg8 src).toNat = 16 * (y / 10) + y % 10 := by omega
  obtain ⟨hhigh, hlow⟩ := add8_digits hq hr ha' hv'
  refine ⟨t, u, ht, hu, ?_, ?_⟩
  · have hsum := decimal_sum (by omega) hq (by omega) hr hhigh hlow
    have hres := add8_res_toNat s.a (s.reg8 src) false
    rw [ha', hv', Bool.toNat_false, Nat.add_zero] at hres
    rw [← hres] at hsum
    rw [hua, htc, hth, hta, BitVec.toNat_add, correction_toNat]
    refine hsum.trans ?_
    clear hres hsum hhigh hlow
    omega
  · rw [huc, htc, hta, hhigh]
    clear hhigh hlow
    omega

end Sys2Proof.Machine
end

section
/-! Chains of updates: what a rule's state is made of. A permit names what a rule may write; a chain under a
permit keeps everything else, and every claim about all instructions follows by induction on the chain. -/
namespace Sys2Proof.Machine

open Sys2Proof

/-! ### Permits -/

/-- What a rule may write: 8-bit registers, SP, flags, bytes by their addresses, pc, IME, `ime_sched` and
`halted`. -/
structure Permit where
  regs : Reg8 → Prop
  sp : Prop
  flags : FlagSet
  addrs : Word → Prop
  pc : Prop
  ime : Prop
  imeSched : Prop
  halted : Prop

/-- The first flags include the second. -/
def FlagSet.covers (f g : FlagSet) : Bool := (f.z || !g.z) && (f.n || !g.n) && (f.h || !g.h) && (f.c || !g.c)

/-- The permit covers a write to a 16-bit register. -/
def Permit.Pair (p : Permit) : Reg16 → Prop
  | .af => p.regs .a ∧ p.flags.covers ⟨true, true, true, true⟩ = true
  | .bc => p.regs .b ∧ p.regs .c
  | .de => p.regs .d ∧ p.regs .e
  | .hl => p.regs .h ∧ p.regs .l
  | .sp => p.sp

/-- The permit covers the one write of a target form. -/
def Permit.Target (p : Permit) (s : State) : Tgt8 → Prop
  | .reg r => p.regs r
  | .ind rr => p.addrs (s.reg16 (indReg16 rr))
  | .indhiC => p.addrs (highPage s.c)
  | .ind16 a => p.addrs a
  | .indhi8 a => p.addrs (highPage a)

/-- The permit covers a push. -/
def Permit.Push (p : Permit) (s : State) : Prop := p.sp ∧ p.addrs (s.sp - 1) ∧ p.addrs (s.sp - 2)

/-- From `s` to `t` by the updates a rule is made of, each covered by the permit. -/
inductive Updates (p : Permit) (s : State) : State → Prop where
  | refl : Updates p s s
  | setReg8 {t : State} (h : Updates p s t) {r : Reg8} (hr : p.regs r) (v : Byte) : Updates p s (t.setReg8 r v)
  | setReg16 {t : State} (h : Updates p s t) {rr : Reg16} (hr : p.Pair rr) (v : Word) : Updates p s (t.setReg16 rr v)
  | setFlags {t : State} (h : Updates p s t) {z n f c : Option Bool}
      (hf : p.flags.covers ⟨z.isSome, n.isSome, f.isSome, c.isSome⟩ = true) : Updates p s (t.setFlags z n f c)
  | setPc {t : State} (h : Updates p s t) (hp : p.pc) (w : Word) : Updates p s (t.setPc w)
  | control {t : State} (h : Updates p s t) {a b c : Bool} (ha : p.ime ∨ a = t.ime) (hb : p.imeSched ∨ b = t.imeSched)
      (hc : p.halted ∨ c = t.halted) : Updates p s { t with ime := a, imeSched := b, halted := c }
  | acknowledge {t : State} (h : Updates p s t) (w : Word) : Updates p s (t.acknowledge w)
  | afterRead {t : State} (h : Updates p s t) (a : Word) : Updates p s (t.afterRead a)
  | afterWrite {t : State} (h : Updates p s t) {a : Word} (ha : p.addrs a) (v : Byte) : Updates p s (t.afterWrite a v)

variable {p : Permit} {s t u : State}

namespace Updates

theorem trans (h : Updates p s t) (k : Updates p t u) : Updates p s u := by
  induction k with
  | refl => exact h
  | setReg8 _ hr v ih => exact ih.setReg8 hr v
  | setReg16 _ hr v ih => exact ih.setReg16 hr v
  | setFlags _ hf ih => exact ih.setFlags hf
  | setPc _ hp w ih => exact ih.setPc hp w
  | control _ ha hb hc ih => exact ih.control ha hb hc
  | acknowledge _ w ih => exact ih.acknowledge w
  | afterRead _ a ih => exact ih.afterRead a
  | afterWrite _ ha v ih => exact ih.afterWrite ha v

/-! ### The compound updates -/

theorem afterSrc (h : Updates p s t) (src : Src8) : Updates p s (t.afterSrc src) := by
  unfold State.afterSrc
  split
  · exact h
  · exact h.afterRead _

theorem afterTgt (h : Updates p s t) {tgt : Tgt8} (ht : p.Target t tgt) (v : Byte) :
    Updates p s (t.afterTgt tgt v) := by
  cases tgt with
  | reg r => exact h.setReg8 ht v
  | ind rr => exact h.afterWrite ht v
  | indhiC => exact h.afterWrite ht v
  | ind16 a => exact h.afterWrite ht v
  | indhi8 a => exact h.afterWrite ht v

theorem afterPush (h : Updates p s t) (hp : p.Push t) (v : Word) : Updates p s (t.afterPush v) := by
  obtain ⟨hsp, h1, h2⟩ := hp
  exact (((h.setReg16 (rr := .sp) hsp _).afterWrite h1 _).setReg16 (rr := .sp) hsp _).afterWrite h2 _

theorem afterPop (h : Updates p s t) (hsp : p.sp) : Updates p s t.afterPop :=
  (((h.afterRead _).setReg16 (rr := .sp) hsp _).afterRead _).setReg16 (rr := .sp) hsp _

theorem writeAluResult (h : Updates p s t) {op : AluOp} (ha : op ≠ .cp → p.regs .a) (v : Byte) :
    Updates p s (writeAluResult op v t) := by
  rw [writeAluResult_eq]
  split
  · exact h
  · rename_i hop
    exact h.setReg8 (ha hop) v

/-! ### What every chain keeps -/

theorem quiet (h : Updates p s t) : Quiet s t := by
  induction h with
  | refl => exact .refl s
  | setReg8 _ _ v ih => exact ih.setReg8 _ v
  | setReg16 _ _ v ih => exact ih.setReg16 _ v
  | setFlags _ _ ih => exact ih.setFlags _ _ _ _
  | setPc _ _ w ih => exact ih.setPc w
  | control _ _ _ _ ih => exact ih.control _ _ _
  | acknowledge _ w ih => exact ih.trans ⟨rfl, rfl, rfl, le_rfl, ⟨[_], rfl⟩, fun _ h => h⟩
  | afterRead _ a ih => exact ih.afterRead a
  | afterWrite _ _ v ih => exact ih.afterWrite _ v

theorem storesIn {addrs : List Word} (h : Updates p s t) (ha : ∀ a, p.addrs a → a ∈ addrs) : StoresIn addrs s t := by
  induction h with
  | refl => exact .refl addrs s
  | setReg8 _ _ v ih => exact ih.setReg8 _ v
  | setReg16 _ _ v ih => exact ih.setReg16 _ v
  | setFlags _ _ ih => exact ih.setFlags _ _ _ _
  | setPc _ _ w ih => exact ih.setPc w
  | control _ _ _ _ ih => exact ih.control _ _ _
  | acknowledge _ w ih => exact ih.trans (.of rfl rfl)
  | afterRead _ a ih => exact ih.afterRead a
  | afterWrite _ hw v ih => exact ih.afterWrite (ha _ hw) v

theorem memoryInv (h : Updates p s t) (hs : s.MemoryInv) : t.MemoryInv := by
  induction h with
  | refl => exact hs
  | setReg8 _ _ v ih => simpa [State.MemoryInv] using ih
  | setReg16 _ _ v ih => simpa [State.MemoryInv] using ih
  | setFlags _ _ ih => exact ih
  | setPc _ _ w ih => exact ih
  | control _ _ _ _ ih => exact ih
  | acknowledge _ w ih => exact ih
  | afterRead _ a ih => simpa [State.MemoryInv] using ih
  | afterWrite _ _ v ih => exact afterWrite_memoryInv ih _ v

/-- The DMA window is as it was, or opened by a write to 0xFF46. -/
theorem dmaWindow (h : Updates p s t) : t.dmaWindow = s.dmaWindow ∨ t.dmaWindow = Config.dmaWindow := by
  induction h with
  | refl => exact .inl rfl
  | setReg8 _ _ v ih => simpa using ih
  | setReg16 _ _ v ih => simpa using ih
  | setFlags _ _ ih => exact ih
  | setPc _ _ w ih => exact ih
  | control _ _ _ _ ih => exact ih
  | acknowledge _ w ih => exact ih
  | afterRead _ a ih => simpa using ih
  | afterWrite _ _ v ih =>
    rw [afterWrite_dmaWindow]
    split
    · exact .inr rfl
    · exact ih

theorem remaining (h : Updates p s t) : t.remaining = s.remaining := by
  induction h with
  | refl => rfl
  | setReg8 _ _ v ih => simpa using ih
  | setReg16 _ _ v ih => simpa using ih
  | setFlags _ _ ih => exact ih
  | setPc _ _ w ih => exact ih
  | control _ _ _ _ ih => exact ih
  | acknowledge _ w ih => exact ih
  | afterRead _ a ih => simpa using ih
  | afterWrite _ _ v ih => simpa using ih

/-! ### What a permit leaves out -/

theorem reg8 (h : Updates p s t) {r : Reg8} (hr : ¬p.regs r) : t.reg8 r = s.reg8 r := by
  induction h with
  | refl => rfl
  | setReg8 _ hq v ih =>
    rw [State.setReg8_reg8, if_neg, ih]
    rintro rfl
    exact hr hq
  | @setReg16 t _ rr hq v ih =>
    rw [State.setReg16_reg8_of_notMem, ih]
    intro hm
    apply hr
    cases rr <;> cases r <;> simp [reg16Names, regName] at hm <;> simp_all [Permit.Pair]
  | setFlags _ _ ih => rw [State.setFlags_reg8, ih]
  | setPc _ _ w ih => rw [State.setPc_reg8, ih]
  | control _ _ _ _ ih => exact ih
  | acknowledge _ w ih => exact ih
  | afterRead _ a ih => rw [State.afterRead_reg8, ih]
  | afterWrite _ _ v ih => rw [State.afterWrite_reg8, ih]

theorem sp (h : Updates p s t) (hp : ¬p.sp) : t.sp = s.sp := by
  induction h with
  | refl => rfl
  | setReg8 _ _ v ih => rw [State.setReg8_sp, ih]
  | @setReg16 t _ rr hr v ih =>
    rw [State.setReg16_sp_of_ne, ih]
    rintro rfl
    exact hp hr
  | setFlags _ _ ih => exact ih
  | setPc _ _ w ih => exact ih
  | control _ _ _ _ ih => exact ih
  | acknowledge _ w ih => exact ih
  | afterRead _ a ih => rw [State.afterRead_sp, ih]
  | afterWrite _ _ v ih => rw [State.afterWrite_sp, ih]

theorem pc (h : Updates p s t) (hp : ¬p.pc) : t.pc = s.pc := by
  induction h with
  | refl => rfl
  | setReg8 _ _ v ih => rw [State.setReg8_pc, ih]
  | setReg16 _ _ v ih => rw [State.setReg16_pc, ih]
  | setFlags _ _ ih => exact ih
  | setPc _ hq w ih => exact absurd hq hp
  | control _ _ _ _ ih => exact ih
  | acknowledge _ w ih => exact ih
  | afterRead _ a ih => rw [State.afterRead_pc, ih]
  | afterWrite _ _ v ih => rw [State.afterWrite_pc, ih]

/-- The three control flags, each unless the permit names it. -/
theorem controlFlags (h : Updates p s t) :
    (p.ime ∨ t.ime = s.ime) ∧ (p.imeSched ∨ t.imeSched = s.imeSched) ∧ (p.halted ∨ t.halted = s.halted) := by
  induction h with
  | refl => exact ⟨.inr rfl, .inr rfl, .inr rfl⟩
  | setReg8 _ _ v ih => simpa using ih
  | setReg16 _ _ v ih => simpa using ih
  | setFlags _ _ ih => exact ih
  | setPc _ _ w ih => exact ih
  | control _ ha hb hc ih =>
    obtain ⟨ih1, ih2, ih3⟩ := ih
    exact ⟨ha.elim .inl fun e => ih1.imp_right e.trans, hb.elim .inl fun e => ih2.imp_right e.trans,
      hc.elim .inl fun e => ih3.imp_right e.trans⟩
  | acknowledge _ w ih => exact ih
  | afterRead _ a ih => simpa using ih
  | afterWrite _ _ v ih => simpa using ih

end Updates

/-- One flag after a write that the permit covers. -/
theorem keepOr_of_covers {old : Bool} {new : Option Bool} {allowed : Bool} (h : (allowed || !new.isSome) = true)
    (ha : allowed = false) : keepOr old new = old := by
  cases new with
  | none => rfl
  | some v => rw [ha] at h; cases h

theorem FlagSet.covers_iff {f g : FlagSet} : f.covers g = true ↔
    (f.z || !g.z) = true ∧ (f.n || !g.n) = true ∧ (f.h || !g.h) = true ∧ (f.c || !g.c) = true := by
  simp [FlagSet.covers, and_assoc]

theorem Updates.flags (h : Updates p s t) :
    (p.flags.z = false → t.flags.z = s.flags.z) ∧ (p.flags.n = false → t.flags.n = s.flags.n) ∧
      (p.flags.h = false → t.flags.h = s.flags.h) ∧ (p.flags.c = false → t.flags.c = s.flags.c) := by
  induction h with
  | refl => exact ⟨fun _ => rfl, fun _ => rfl, fun _ => rfl, fun _ => rfl⟩
  | setReg8 _ _ v ih => simpa using ih
  | @setReg16 t _ rr hr v ih =>
    cases rr with
    | af =>
      obtain ⟨-, hf⟩ := hr
      obtain ⟨hz, hn, hh, hc⟩ := FlagSet.covers_iff.1 hf
      simp only [Bool.not_true, Bool.or_false] at hz hn hh hc
      simp [hz, hn, hh, hc]
    | _ => exact ih
  | setFlags _ hf ih =>
    obtain ⟨hz, hn, hh, hc⟩ := FlagSet.covers_iff.1 hf
    obtain ⟨ihz, ihn, ihh, ihc⟩ := ih
    exact ⟨fun e => (keepOr_of_covers hz e).trans (ihz e), fun e => (keepOr_of_covers hn e).trans (ihn e),
      fun e => (keepOr_of_covers hh e).trans (ihh e), fun e => (keepOr_of_covers hc e).trans (ihc e)⟩
  | setPc _ _ w ih => exact ih
  | control _ _ _ _ ih => exact ih
  | acknowledge _ w ih => exact ih
  | afterRead _ a ih => simpa using ih
  | afterWrite _ _ v ih => simpa using ih

end Sys2Proof.Machine
end

section
/-! The frames of all instructions (R104, R112, R121 to R125, R130 to R137, R321, R423): every instruction that
answers next is a chain of updates under the permit that the summaries of Safety give it, and then a charge of
its row. -/
namespace Sys2Proof.Machine

open Sys2Proof

variable {p : Permit} {ρ : Row} {s t : State} {cost c d : Nat}

/-! ### Chains that charge -/

/-- The row has this cost, at most the 6 cycles of a call. -/
def Charges (ρ : Row) (cost : Nat) : Prop :=
  (1 ≤ cost ∧ cost ≤ 6) ∧ (cost = ρ.cycles ∨ some cost = ρ.cyclesNotTaken)

/-- From `s` to `t` by a chain under the permit and a charge of the row. -/
def Ran (p : Permit) (ρ : Row) (s t : State) : Prop :=
  ∃ u cost, Updates p s u ∧ t = u.owing (cost - 1) ∧ Charges ρ cost

theorem Updates.ran {u : State} (h : Updates p s u) (hc : Charges ρ cost) : Ran p ρ s (u.owing (cost - 1)) :=
  ⟨u, cost, h, rfl, hc⟩

/-! ### One rule at a time -/

theorem charge_ran (h : charge cost s = .next t) (hc : Charges ρ cost) : Ran p ρ s t := by
  obtain rfl := charge_next.1 h
  exact Updates.refl.ran hc

theorem permit_target_afterSrc {src : Src8} {tgt : Tgt8} : p.Target (s.afterSrc src) tgt ↔ p.Target s tgt := by
  cases tgt <;> simp [Permit.Target]

theorem load8_ran {src : Src8} {tgt : Tgt8} (h : load8 src tgt cost s = .next t) (hp : p.Target s tgt)
    (hc : Charges ρ cost) : Ran p ρ s t := by
  obtain ⟨-, -, -, -, rfl⟩ := load8_next.1 h
  exact ((Updates.refl.afterSrc src).afterTgt (permit_target_afterSrc.2 hp) _).ran hc

theorem load8Step_ran {src : Src8} {tgt : Tgt8} {delta : Word} (h : load8Step src tgt delta cost s = .next t)
    (hp : p.Target s tgt) (hhl : p.Pair .hl) (hc : Charges ρ cost) : Ran p ρ s t := by
  obtain ⟨-, -, -, -, -, rfl⟩ := load8Step_next.1 h
  exact (((Updates.refl.afterSrc src).afterTgt (permit_target_afterSrc.2 hp) _).setReg16 hhl _).ran hc

theorem load16_imm_ran {n : Word} {rr : Reg16} (h : load16 (.imm16 n) (.reg rr) cost s = .next t) (hp : p.Pair rr)
    (hc : Charges ρ cost) : Ran p ρ s t := by
  obtain rfl := load16_imm_next.1 h
  exact (Updates.refl.setReg16 hp n).ran hc

theorem load16_reg_ran {rr tt : Reg16} (h : load16 (.reg rr) (.reg tt) cost s = .next t) (hp : p.Pair tt)
    (hc : Charges ρ cost) : Ran p ρ s t := by
  obtain ⟨-, rfl⟩ := load16_reg_next.1 h
  exact (Updates.refl.setReg16 hp _).ran hc

theorem load16_store_ran {rr : Reg16} {a : Word} (h : load16 (.reg rr) (.ind16 a) cost s = .next t) (ha : p.addrs a)
    (ha1 : p.addrs (a + 1)) (hc : Charges ρ cost) : Ran p ρ s t := by
  obtain ⟨-, -, rfl⟩ := load16_store_next.1 h
  exact ((Updates.refl.afterWrite ha _).afterWrite ha1 _).ran hc

theorem loadHLSP_ran {e : Byte} (h : loadHLSP e cost s = .next t) (hp : p.Pair .hl)
    (hf : p.flags.covers ⟨true, true, true, true⟩ = true) (hc : Charges ρ cost) : Ran p ρ s t := by
  obtain ⟨-, rfl⟩ := loadHLSP_next.1 h
  exact Updates.ran (Updates.setFlags (Updates.refl.setReg16 hp _) hf) hc

theorem push_ran {rr : Reg16} (h : push rr cost s = .next t) (hp : p.Push s) (hc : Charges ρ cost) :
    Ran p ρ s t := by
  obtain ⟨-, -, rfl⟩ := push_next.1 h
  exact (Updates.refl.afterPush hp _).ran hc

theorem pop_ran {rr : Reg16} (h : pop rr cost s = .next t) (hsp : p.sp) (hp : p.Pair rr) (hc : Charges ρ cost) :
    Ran p ρ s t := by
  obtain ⟨-, rfl⟩ := pop_next.1 h
  exact ((Updates.refl.afterPop hsp).setReg16 hp _).ran hc

theorem alu8_ran {op : AluOp} {src : Src8} (h : alu8 op src cost s = .next t) (ha : op ≠ .cp → p.regs .a)
    (hf : p.flags.covers ⟨true, true, true, true⟩ = true) (hc : Charges ρ cost) : Ran p ρ s t := by
  obtain ⟨-, -, -, -, rfl⟩ := alu8_next.1 h
  exact Updates.ran (Updates.setFlags ((Updates.refl.afterSrc src).writeAluResult ha _) hf) hc

theorem unary8_ran {fn : Byte → AluOut} {src : Src8} {tgt : Tgt8} (h : unary8 fn src tgt cost s = .next t)
    (hp : p.Target s tgt) (hf : p.flags.covers ⟨true, true, true, false⟩ = true) (hc : Charges ρ cost) :
    Ran p ρ s t := by
  obtain ⟨-, -, -, -, rfl⟩ := unary8_next.1 h
  exact Updates.ran (Updates.setFlags ((Updates.refl.afterSrc src).afterTgt (permit_target_afterSrc.2 hp) _) hf) hc

theorem decimalAdjust_ran (h : decimalAdjust cost s = .next t) (ha : p.regs .a)
    (hf : p.flags.covers ⟨true, false, true, true⟩ = true) (hc : Charges ρ cost) : Ran p ρ s t := by
  obtain ⟨-, rfl⟩ := decimalAdjust_next.1 h
  exact Updates.ran (Updates.setFlags (Updates.refl.setReg8 ha _) hf) hc

theorem complementA_ran (h : complementA cost s = .next t) (ha : p.regs .a)
    (hf : p.flags.covers ⟨false, true, true, false⟩ = true) (hc : Charges ρ cost) : Ran p ρ s t := by
  obtain ⟨-, rfl⟩ := complementA_next.1 h
  exact Updates.ran (Updates.setFlags (Updates.refl.setReg8 ha _) hf) hc

theorem setCarry_ran (h : setCarry cost s = .next t) (hf : p.flags.covers ⟨false, true, true, true⟩ = true)
    (hc : Charges ρ cost) : Ran p ρ s t := by
  obtain rfl := charge_next.1 h
  exact Updates.ran (Updates.setFlags Updates.refl hf) hc

theorem complementCarry_ran (h : complementCarry cost s = .next t)
    (hf : p.flags.covers ⟨false, true, true, true⟩ = true) (hc : Charges ρ cost) : Ran p ρ s t := by
  obtain ⟨-, rfl⟩ := complementCarry_next.1 h
  exact Updates.ran (Updates.setFlags Updates.refl hf) hc

theorem addHL_ran {rr : Reg16} (h : addHL rr cost s = .next t) (hp : p.Pair .hl)
    (hf : p.flags.covers ⟨false, true, true, true⟩ = true) (hc : Charges ρ cost) : Ran p ρ s t := by
  obtain ⟨-, -, rfl⟩ := addHL_next.1 h
  exact Updates.ran (Updates.setFlags (Updates.refl.setReg16 hp _) hf) hc

theorem add16To_ran {rr : Reg16} {delta : Word} (h : add16To rr delta cost s = .next t) (hp : p.Pair rr)
    (hc : Charges ρ cost) : Ran p ρ s t := by
  obtain ⟨-, rfl⟩ := add16To_next.1 h
  exact (Updates.refl.setReg16 hp _).ran hc

theorem addSP_ran {e : Byte} (h : addSP e cost s = .next t) (hp : p.Pair .sp)
    (hf : p.flags.covers ⟨true, true, true, true⟩ = true) (hc : Charges ρ cost) : Ran p ρ s t := by
  obtain ⟨-, rfl⟩ := addSP_next.1 h
  exact Updates.ran (Updates.setFlags (Updates.refl.setReg16 hp _) hf) hc

theorem rotA_ran {op : RotOp} (h : rotA op cost s = .next t) (ha : p.regs .a)
    (hf : p.flags.covers ⟨true, true, true, true⟩ = true) (hc : Charges ρ cost) : Ran p ρ s t := by
  obtain ⟨-, -, rfl⟩ := rotA_next.1 h
  exact Updates.ran (Updates.setFlags (Updates.refl.setReg8 ha _) hf) hc

theorem rot8_ran {op : RotOp} {src : Src8} {tgt : Tgt8} (h : rot8 op src tgt cost s = .next t) (hp : p.Target s tgt)
    (hf : p.flags.covers ⟨true, true, true, true⟩ = true) (hc : Charges ρ cost) : Ran p ρ s t := by
  obtain ⟨-, -, -, -, -, rfl⟩ := rot8_next.1 h
  exact Updates.ran (Updates.setFlags ((Updates.refl.afterSrc src).afterTgt (permit_target_afterSrc.2 hp) _) hf) hc

theorem bitTest_ran {b : Fin 8} {src : Src8} (h : bitTest b src cost s = .next t)
    (hf : p.flags.covers ⟨true, true, true, false⟩ = true) (hc : Charges ρ cost) : Ran p ρ s t := by
  obtain ⟨-, -, rfl⟩ := bitTest_next.1 h
  exact Updates.ran (Updates.setFlags (Updates.refl.afterSrc src) hf) hc

theorem bitReset_ran {b : Fin 8} {src : Src8} {tgt : Tgt8} (h : bitReset b src tgt cost s = .next t)
    (hp : p.Target s tgt) (hc : Charges ρ cost) : Ran p ρ s t := by
  obtain ⟨-, -, -, -, rfl⟩ := bitReset_next.1 h
  exact ((Updates.refl.afterSrc src).afterTgt (permit_target_afterSrc.2 hp) _).ran hc

theorem bitSet_ran {b : Fin 8} {src : Src8} {tgt : Tgt8} (h : bitSet b src tgt cost s = .next t)
    (hp : p.Target s tgt) (hc : Charges ρ cost) : Ran p ρ s t := by
  obtain ⟨-, -, -, -, rfl⟩ := bitSet_next.1 h
  exact ((Updates.refl.afterSrc src).afterTgt (permit_target_afterSrc.2 hp) _).ran hc

theorem jump_imm_ran {n : Word} (h : jump (.imm16 n) cost s = .next t) (hp : p.pc) (hc : Charges ρ cost) :
    Ran p ρ s t := by
  obtain rfl := jump_imm_next.1 h
  exact (Updates.refl.setPc hp n).ran hc

theorem jump_reg_ran {rr : Reg16} (h : jump (.reg rr) cost s = .next t) (hp : p.pc) (hc : Charges ρ cost) :
    Ran p ρ s t := by
  obtain ⟨-, rfl⟩ := jump_reg_next.1 h
  exact (Updates.refl.setPc hp _).ran hc

theorem jumpIf_ran {cc : Cond} {n : Word} (h : jumpIf cc n c d s = .next t) (hp : p.pc) (hc : Charges ρ c)
    (hd : Charges ρ d) : Ran p ρ s t := by
  obtain ⟨-, rfl⟩ := jumpIf_next.1 h
  split
  · exact (Updates.refl.setPc hp n).ran hc
  · exact Updates.refl.ran hd

theorem jumpRel_ran {e : Byte} (h : jumpRel e cost s = .next t) (hp : p.pc) (hc : Charges ρ cost) :
    Ran p ρ s t := by
  obtain rfl := jumpRel_next.1 h
  exact (Updates.refl.setPc hp _).ran hc

theorem jumpRelIf_ran {cc : Cond} {e : Byte} (h : jumpRelIf cc e c d s = .next t) (hp : p.pc) (hc : Charges ρ c)
    (hd : Charges ρ d) : Ran p ρ s t := by
  obtain ⟨-, rfl⟩ := jumpRelIf_next.1 h
  split
  · exact (Updates.refl.setPc hp _).ran hc
  · exact Updates.refl.ran hd

theorem call_ran {n : Word} (h : call n cost s = .next t) (hp : p.Push s) (hpc : p.pc) (hc : Charges ρ cost) :
    Ran p ρ s t := by
  obtain ⟨-, rfl⟩ := call_next.1 h
  exact ((Updates.refl.afterPush hp _).setPc hpc n).ran hc

theorem callIf_ran {cc : Cond} {n : Word} (h : callIf cc n c d s = .next t)
    (hp : condOf cc s.flags = true → p.Push s) (hpc : p.pc) (hc : Charges ρ c) (hd : Charges ρ d) : Ran p ρ s t := by
  obtain ⟨-, ht⟩ := callIf_next.1 h
  split at ht
  · rename_i hcc
    obtain ⟨-, rfl⟩ := ht
    exact ((Updates.refl.afterPush (hp hcc) _).setPc hpc n).ran hc
  · subst ht
    exact Updates.refl.ran hd

theorem ret_ran (h : ret cost s = .next t) (hsp : p.sp) (hpc : p.pc) (hc : Charges ρ cost) : Ran p ρ s t := by
  obtain ⟨-, rfl⟩ := ret_next.1 h
  exact ((Updates.refl.afterPop hsp).setPc hpc _).ran hc

theorem retIf_ran {cc : Cond} (h : retIf cc c d s = .next t) (hsp : condOf cc s.flags = true → p.sp) (hpc : p.pc)
    (hc : Charges ρ c) (hd : Charges ρ d) : Ran p ρ s t := by
  obtain ⟨-, ht⟩ := retIf_next.1 h
  split at ht
  · rename_i hcc
    obtain ⟨-, rfl⟩ := ht
    exact ((Updates.refl.afterPop (hsp hcc)).setPc hpc _).ran hc
  · subst ht
    exact Updates.refl.ran hd

theorem retInterrupt_ran (h : retInterrupt cost s = .next t) (hsp : p.sp) (hpc : p.pc) (hi : p.ime)
    (hc : Charges ρ cost) : Ran p ρ s t := by
  obtain ⟨-, rfl⟩ := retInterrupt_next.1 h
  exact (((Updates.refl.afterPop hsp).setPc hpc _).control (.inl hi) (.inr rfl) (.inr rfl)).ran hc

theorem restart_ran {y : Fin 8} (h : restart y cost s = .next t) (hp : p.Push s) (hpc : p.pc) (hc : Charges ρ cost) :
    Ran p ρ s t := by
  obtain ⟨-, rfl⟩ := restart_next.1 h
  exact ((Updates.refl.afterPush hp _).setPc hpc _).ran hc

theorem halt_ran (h : halt cost s = .next t) (hp : p.halted) (hc : Charges ρ cost) : Ran p ρ s t := by
  obtain ⟨-, rfl⟩ := halt_next.1 h
  exact (Updates.refl.control (.inr rfl) (.inr rfl) (.inl hp)).ran hc

theorem disableInterrupts_ran (h : disableInterrupts cost s = .next t) (hi : p.ime) (hs : p.imeSched)
    (hc : Charges ρ cost) : Ran p ρ s t := by
  obtain rfl := charge_next.1 h
  exact (Updates.refl.control (.inl hi) (.inl hs) (.inr rfl)).ran hc

theorem enableInterrupts_ran (h : enableInterrupts cost s = .next t) (hs : p.imeSched) (hc : Charges ρ cost) :
    Ran p ρ s t := by
  obtain rfl := charge_next.1 h
  exact (Updates.refl.control (.inr rfl) (.inl hs) (.inr rfl)).ran hc

/-! ### The permit of an instruction -/

/-- What an instruction may write, by the summaries of Safety and R112, R130 to R132. -/
def permit (i : Instr) (s : State) : Permit where
  regs r := r ∈ writtenRegs i
  sp := writesSp i s.flags = true
  flags := flagsWritten i
  addrs a := a ∈ storedAddrs i s
  pc := writesPc i = true
  ime := i = .di ∨ i = .reti
  imeSched := i = .di ∨ i = .ei
  halted := i = .halt

variable {i : Instr}

theorem permit_reg {l : List Reg8} {r : Reg8} (h : writtenRegs i = l) (hr : r ∈ l) : (permit i s).regs r := by
  subst h; exact hr

theorem permit_addr {l : List Word} {a : Word} (h : storedAddrs i s = l) (ha : a ∈ l) : (permit i s).addrs a := by
  subst h; exact ha

theorem permit_flags {f g : FlagSet} (h : flagsWritten i = f) (hc : f.covers g = true) :
    (permit i s).flags.covers g = true := by
  subst h; exact hc

theorem permit_hl (h : ∀ r ∈ [Reg8.h, .l], r ∈ writtenRegs i) : (permit i s).Pair .hl :=
  ⟨h .h (by simp), h .l (by simp)⟩

/-- SP is written by a push and by a pop. -/
theorem permit_sp_of_stack {f : Flags} (h : pushes i f = true ∨ pops i f = true) : writesSp i f = true := by
  unfold writesSp
  rcases h with h | h <;> simp [h]

theorem permit_pair {p : RP} (h : writtenRegs i = AnyReg.parts p.any) (hs : p = .sp → writesSp i s.flags = true) :
    (permit i s).Pair p.reg16 := by
  cases p with
  | sp => exact hs rfl
  | _ => exact ⟨permit_reg h (by decide), permit_reg h (by decide)⟩

theorem permit_push (h : pushes i s.flags = true) (ha : storedAddrs i s = [s.sp - 1, s.sp - 2]) :
    (permit i s).Push s :=
  ⟨permit_sp_of_stack (.inl h), permit_addr ha (by simp), permit_addr ha (by simp)⟩

theorem storedAddrs_ldMemA16SP (n : Word) (s : State) : storedAddrs (.ldMemA16SP n) s = [n, n + 1] :=
  congrArg (fun w => [w, n + 1]) (wordOf_bytes n)

theorem storedAddrs_ldMemA16A (n : Word) (s : State) : storedAddrs (.ldMemA16A n) s = [n] :=
  congrArg (fun w => [w]) (wordOf_bytes n)

/-- A row of one cost charges it. -/
theorem charges {ss : List SourceDescriptor} {ts : List TargetDescriptor} {len : Nat} {o : Option Nat}
    (h : ρ = row ss ts len cost o) (hc : 1 ≤ cost ∧ cost ≤ 6) : Charges ρ cost := h ▸ ⟨hc, .inl rfl⟩

/-- A conditional row charges its other cost as well. -/
theorem charges_notTaken {ss : List SourceDescriptor} {ts : List TargetDescriptor} {len : Nat}
    (h : ρ = row ss ts len c (some cost)) (hc : 1 ≤ cost ∧ cost ≤ 6) : Charges ρ cost := h ▸ ⟨hc, .inr rfl⟩

/-- Every instruction that answers next is a chain under its permit and a charge of its row. -/
theorem exec_ran (hwf : i.wf = true) (h : exec i s = .next t) : Ran (permit i s) (tableRow i) s t := by
  induction i using instr_forms with
  | h_ldRegReg dst r =>
    rw [exec_ldRegReg] at h
    exact load8_ran h (permit_reg (writtenRegs_ldRegReg dst r) (by simp))
      (charges (tableRow_ldRegReg dst r) (by decide))
  | h_ldRegN8 dst n8 =>
    rw [exec_ldRegN8] at h
    exact load8_ran h (permit_reg (writtenRegs_ldRegN8 dst n8) (by simp))
      (charges (tableRow_ldRegN8 dst n8) (by decide))
  | h_ldRegMem dst =>
    rw [exec_ldRegMem] at h
    exact load8_ran h (permit_reg (writtenRegs_ldRegMem dst) (by simp)) (charges (tableRow_ldRegMem dst) (by decide))
  | h_ldMemReg r =>
    rw [exec_ldMemReg] at h
    exact load8_ran h (permit_addr (storedAddrs_ldMemReg r s) (by simp [indReg16]))
      (charges (tableRow_ldMemReg r) (by decide))
  | h_aluReg op r =>
    rw [exec_aluReg] at h
    exact alu8_ran h (fun ho => permit_reg (writtenRegs_aluReg op r) (by simp [ho]))
      (permit_flags (flagsWritten_aluReg op r) rfl) (charges (tableRow_aluReg op r) (by decide))
  | h_aluMem op =>
    rw [exec_aluMem] at h
    exact alu8_ran h (fun ho => permit_reg (writtenRegs_aluMem op) (by simp [ho]))
      (permit_flags (flagsWritten_aluMem op) rfl) (charges (tableRow_aluMem op) (by decide))
  | h_aluN8 op n8 =>
    rw [exec_aluN8] at h
    exact alu8_ran h (fun ho => permit_reg (writtenRegs_aluN8 op n8) (by simp [ho]))
      (permit_flags (flagsWritten_aluN8 op n8) rfl) (charges (tableRow_aluN8 op n8) (by decide))
  | h_incReg dst =>
    rw [exec_incReg] at h
    exact unary8_ran h (permit_reg (writtenRegs_incReg dst) (by simp)) (permit_flags (flagsWritten_incReg dst) rfl)
      (charges (tableRow_incReg dst) (by decide))
  | h_decReg dst =>
    rw [exec_decReg] at h
    exact unary8_ran h (permit_reg (writtenRegs_decReg dst) (by simp)) (permit_flags (flagsWritten_decReg dst) rfl)
      (charges (tableRow_decReg dst) (by decide))
  | h_ldPairN16 p n16 =>
    rw [exec_ldPairN16] at h
    exact load16_imm_ran h (permit_pair (writtenRegs_ldPairN16 p n16) fun e => by subst e; rfl)
      (charges (tableRow_ldPairN16 p n16) (by decide))
  | h_addHLPair p =>
    rw [exec_addHLPair] at h
    exact addHL_ran h (permit_hl (by rw [writtenRegs_addHLPair]; simp)) (permit_flags (flagsWritten_addHLPair p) rfl)
      (charges (tableRow_addHLPair p) (by decide))
  | h_incPair p =>
    rw [exec_incPair] at h
    exact add16To_ran h (permit_pair (writtenRegs_incPair p) fun e => by subst e; rfl)
      (charges (tableRow_incPair p) (by decide))
  | h_decPair p =>
    rw [exec_decPair] at h
    exact add16To_ran h (permit_pair (writtenRegs_decPair p) fun e => by subst e; rfl)
      (charges (tableRow_decPair p) (by decide))
  | h_pushPair q =>
    rw [exec_pushPair] at h
    exact push_ran h (permit_push (pushes_pushPair q _) (storedAddrs_pushPair q s))
      (charges (tableRow_pushPair q) (by decide))
  | h_popPair q =>
    rw [exec_popPair] at h
    refine pop_ran h (permit_sp_of_stack (.inr (pops_popPair q _))) ?_ (charges (tableRow_popPair q) (by decide))
    cases q with
    | af => exact ⟨permit_reg (writtenRegs_popPair .af) (by decide), rfl⟩
    | _ => exact ⟨permit_reg (writtenRegs_popPair _) (by decide), permit_reg (writtenRegs_popPair _) (by decide)⟩
  | h_jpIf cc n16 =>
    rw [exec_jpIf] at h
    exact jumpIf_ran h (writesPc_jpIf cc n16) (charges (tableRow_jpIf cc n16) (by decide))
      (charges_notTaken (tableRow_jpIf cc n16) (by decide))
  | h_jrIf cc n8 =>
    rw [exec_jrIf] at h
    exact jumpRelIf_ran h (writesPc_jrIf cc n8) (charges (tableRow_jrIf cc n8) (by decide))
      (charges_notTaken (tableRow_jrIf cc n8) (by decide))
  | h_callCond cc n16 =>
    rw [exec_callCond] at h
    refine callIf_ran h (fun hcc => permit_push ?_ ?_) (writesPc_callCond cc n16)
      (charges (tableRow_callCond cc n16) (by decide)) (charges_notTaken (tableRow_callCond cc n16) (by decide))
    · rw [pushes_callCond, hcc]
    · rw [storedAddrs_callCond, if_pos hcc]
  | h_retCond cc =>
    rw [exec_retCond] at h
    exact retIf_ran h (fun hcc => permit_sp_of_stack (.inr ((pops_retCond cc _).trans hcc))) (writesPc_retCond cc)
      (charges (tableRow_retCond cc) (by decide)) (charges_notTaken (tableRow_retCond cc) (by decide))
  | h_rstTo b =>
    rw [exec_rstTo] at h
    exact restart_ran h (permit_push (pushes_rstTo b _) (storedAddrs_rstTo b s)) (writesPc_rstTo b)
      (charges (tableRow_rstTo b) (by decide))
  | h_rotReg ro r =>
    rw [exec_rotReg] at h
    exact rot8_ran h (permit_reg (writtenRegs_rotReg ro r) (by simp)) (permit_flags (flagsWritten_rotReg ro r) rfl)
      (charges (tableRow_rotReg ro r) (by decide))
  | h_rotMem ro =>
    rw [exec_rotMem] at h
    exact rot8_ran h (permit_addr (storedAddrs_rotMem ro s) (by simp [indReg16]))
      (permit_flags (flagsWritten_rotMem ro) rfl) (charges (tableRow_rotMem ro) (by decide))
  | h_bitReg b r =>
    rw [exec_bitReg] at h
    exact bitTest_ran h (permit_flags (flagsWritten_bitReg b r) rfl) (charges (tableRow_bitReg b r) (by decide))
  | h_bitMem b =>
    rw [exec_bitMem] at h
    exact bitTest_ran h (permit_flags (flagsWritten_bitMem b) rfl) (charges (tableRow_bitMem b) (by decide))
  | h_resReg b r =>
    rw [exec_resReg] at h
    exact bitReset_ran h (permit_reg (writtenRegs_resReg b r) (by simp)) (charges (tableRow_resReg b r) (by decide))
  | h_resMem b =>
    rw [exec_resMem] at h
    exact bitReset_ran h (permit_addr (storedAddrs_resMem b s) (by simp [indReg16]))
      (charges (tableRow_resMem b) (by decide))
  | h_setReg b r =>
    rw [exec_setReg] at h
    exact bitSet_ran h (permit_reg (writtenRegs_setReg b r) (by simp)) (charges (tableRow_setReg b r) (by decide))
  | h_setMem b =>
    rw [exec_setMem] at h
    exact bitSet_ran h (permit_addr (storedAddrs_setMem b s) (by simp [indReg16]))
      (charges (tableRow_setMem b) (by decide))
  | h_nop => exact charge_ran h (charges rfl (by decide))
  | h_ldMemBCA => exact load8_ran h (permit_addr rfl (.head _)) (charges rfl (by decide))
  | h_rlca => exact rotA_ran h (permit_reg rfl (by decide)) rfl (charges rfl (by decide))
  | h_ldMemA16SP n =>
    exact load16_store_ran h (permit_addr (storedAddrs_ldMemA16SP n s) (by simp))
      (permit_addr (storedAddrs_ldMemA16SP n s) (by simp)) (charges rfl (by decide))
  | h_ldAMemBC => exact load8_ran h (permit_reg rfl (by decide)) (charges rfl (by decide))
  | h_rrca => exact rotA_ran h (permit_reg rfl (by decide)) rfl (charges rfl (by decide))
  | h_stop => cases h
  | h_ldMemDEA => exact load8_ran h (permit_addr rfl (.head _)) (charges rfl (by decide))
  | h_rla => exact rotA_ran h (permit_reg rfl (by decide)) rfl (charges rfl (by decide))
  | h_jrE8 e => exact jumpRel_ran h rfl (charges rfl (by decide))
  | h_ldAMemDE => exact load8_ran h (permit_reg rfl (by decide)) (charges rfl (by decide))
  | h_rra => exact rotA_ran h (permit_reg rfl (by decide)) rfl (charges rfl (by decide))
  | h_ldMemHLIncA =>
    exact load8Step_ran h (permit_addr rfl (.head _)) (permit_hl (by decide)) (charges rfl (by decide))
  | h_daa => exact decimalAdjust_ran h (permit_reg rfl (by decide)) rfl (charges rfl (by decide))
  | h_ldAMemHLInc =>
    exact load8Step_ran h (permit_reg rfl (by decide)) (permit_hl (by decide)) (charges rfl (by decide))
  | h_cpl => exact complementA_ran h (permit_reg rfl (by decide)) rfl (charges rfl (by decide))
  | h_ldMemHLDecA =>
    exact load8Step_ran h (permit_addr rfl (.head _)) (permit_hl (by decide)) (charges rfl (by decide))
  | h_incMemHL => exact unary8_ran h (permit_addr rfl (.head _)) rfl (charges rfl (by decide))
  | h_decMemHL => exact unary8_ran h (permit_addr rfl (.head _)) rfl (charges rfl (by decide))
  | h_ldMemHLN8 n =>
    rw [exec_ldMemHLN8] at h
    exact load8_ran h (permit_addr rfl (.head _)) (charges rfl (by decide))
  | h_scf => exact setCarry_ran h rfl (charges rfl (by decide))
  | h_ldAMemHLDec =>
    exact load8Step_ran h (permit_reg rfl (by decide)) (permit_hl (by decide)) (charges rfl (by decide))
  | h_ccf => exact complementCarry_ran h rfl (charges rfl (by decide))
  | h_halt => exact halt_ran h rfl (charges rfl (by decide))
  | h_jpA16 n => exact jump_imm_ran h rfl (charges rfl (by decide))
  | h_ret => exact ret_ran h rfl rfl (charges rfl (by decide))
  | h_prefixCB op2 => cases hwf
  | h_callA16 n => exact call_ran h (permit_push rfl rfl) rfl (charges rfl (by decide))
  | h_unassigned opcode => cases h
  | h_reti => exact retInterrupt_ran h rfl rfl (.inr rfl) (charges rfl (by decide))
  | h_ldhMemA8A n => exact load8_ran h (permit_addr rfl (.head _)) (charges rfl (by decide))
  | h_ldMemCA => exact load8_ran h (permit_addr rfl (.head _)) (charges rfl (by decide))
  | h_addSPE8 e => exact addSP_ran h rfl rfl (charges rfl (by decide))
  | h_jpHL => exact jump_reg_ran h rfl (charges rfl (by decide))
  | h_ldMemA16A n => exact load8_ran h (permit_addr (storedAddrs_ldMemA16A n s) (by simp)) (charges rfl (by decide))
  | h_ldhAMemA8 n => exact load8_ran h (permit_reg rfl (.head _)) (charges rfl (by decide))
  | h_ldAMemC => exact load8_ran h (permit_reg rfl (by decide)) (charges rfl (by decide))
  | h_di => exact disableInterrupts_ran h (.inl rfl) (.inl rfl) (charges rfl (by decide))
  | h_ldHLSPE8 e =>
    exact loadHLSP_ran h ⟨permit_reg rfl (.head _), permit_reg rfl (.tail _ (.head _))⟩ rfl (charges rfl (by decide))
  | h_ldSPHL => exact load16_reg_ran h rfl (charges rfl (by decide))
  | h_ldAMemA16 n => exact load8_ran h (permit_reg rfl (.head _)) (charges rfl (by decide))
  | h_ei => exact enableInterrupts_ran h (.inr rfl) (charges rfl (by decide))

/-! ### The statements -/

/-- Settles O40: what the permit leaves out, a chain keeps. -/
theorem registersUnchanged : Obligations.RegistersUnchanged := by
  intro i s t hwf h
  obtain ⟨u, cost, hu, rfl, -⟩ := exec_ran hwf h
  exact ⟨fun r hr => hu.reg8 hr, fun hsp => hu.sp (Bool.not_eq_true _ ▸ hsp)⟩

/-- Settles O41. -/
theorem flagsUnchanged : Obligations.FlagsUnchanged := by
  intro i s t hwf h
  obtain ⟨u, cost, hu, rfl, -⟩ := exec_ran hwf h
  exact hu.flags

/-- Settles O42: the chain stores to addresses of the permit only. -/
theorem memoryUnchanged : Obligations.MemoryUnchanged := by
  intro i s t hwf h a ha hoam
  obtain ⟨u, cost, hu, rfl, -⟩ := exec_ran hwf h
  exact (hu.storesIn fun _ => id).stored a ha hoam

/-- Settles O43. -/
theorem controlStateUnchanged : Obligations.ControlStateUnchanged := by
  intro i s t hwf h
  obtain ⟨u, cost, hu, rfl, -⟩ := exec_ran hwf h
  obtain ⟨hime, hsched, hhalt⟩ := hu.controlFlags
  obtain ⟨hst, htick, hirq, hdraws, hev, hun⟩ := hu.quiet
  exact ⟨fun hpc => hu.pc (Bool.not_eq_true _ ▸ hpc), fun h1 h2 => hime.resolve_left (not_or.2 ⟨h1, h2⟩),
    fun h1 h2 => hsched.resolve_left (not_or.2 ⟨h1, h2⟩), hhalt.resolve_left, (hu.storesIn fun _ => id).window,
    hst, htick, hirq, hdraws, hev, hun⟩

/-- Settles O44: the charge of the chain is one of the row's costs, which are 1 to 6. -/
theorem costIsTheRows : Obligations.CostIsTheRows := by
  intro i s t hwf h
  obtain ⟨u, cost, -, rfl, ⟨hlo, hhi⟩, hc⟩ := exec_ran hwf h
  have he : (u.owing (cost - 1)).remaining + 1 = cost := Nat.sub_add_cancel hlo
  rw [he]
  exact ⟨hc, by omega⟩

end Sys2Proof.Machine
end

section
/-! The engine (R420 to R435): what a step does by the state's situation, what is fetched, and what a step that
answers next is made of. -/
namespace Sys2Proof.Machine

open Sys2Proof

variable {s t u : State} {i : Instr} {src : IntSource}

/-! ### The step by the state's situation -/

theorem step_ended (h : s.status ≠ .running) : step s = .next s := by
  unfold step stepCycle
  cases hs : s.status with
  | running => exact absurd hs h
  | faulted _ => rfl
  | refused _ => rfl

theorem step_running (h : s.status = .running) :
    step s = Result.andThen (cpuTick s) fun t => .next (advance t) := by
  simp only [step, stepCycle, h]

theorem step_owing {k : Nat} (h : s.status = .running) (hk : s.remaining = k + 1) :
    step s = .next (advance { s with remaining := k }) := by
  rw [step_running h, cpuTick, hk]
  rfl

theorem step_boundary (h : s.status = .running) (h0 : s.remaining = 0) :
    step s = Result.andThen (boundaryStep s) fun t => .next (advance t) := by
  rw [step_running h, cpuTick, h0]

theorem serviceOrExecute_execute (h : s.ime = false ∨ s.irq = none) : serviceOrExecute s = executeInstruction s := by
  unfold serviceOrExecute
  rcases h with h | h <;> simp [h]

theorem serviceOrExecute_service (h : s.ime = true) (hirq : s.irq = some src) :
    serviceOrExecute s = interruptEntry src s := by
  simp [serviceOrExecute, h, hirq]

theorem boundaryStep_awake (h : s.halted = false) : boundaryStep s = serviceOrExecute s := by
  simp [boundaryStep, h]

theorem boundaryStep_wake (h : s.halted = true) (hirq : s.irq = some src) : boundaryStep s =
    haltedAtFailure (Config.haltedAtFailure s.tick) (serviceOrExecute { s with halted := false }) := by
  simp [boundaryStep, h, hirq]

theorem boundaryStep_wait (h : s.halted = true) (hirq : s.irq = none) : boundaryStep s = charge 1 s := by
  simp [boundaryStep, h, hirq]

theorem step_runsInstruction (h : s.RunsInstruction) :
    step s = Result.andThen (executeInstruction s) fun t => .next (advance t) := by
  obtain ⟨hst, h0, hh, hirq⟩ := h
  rw [step_boundary hst h0, boundaryStep_awake hh, serviceOrExecute_execute hirq]

/-! ### Fetching -/

theorem fetchBytes_cons {n : Nat} {b : Byte} {bs : List Byte} :
    fetchBytes (n + 1) s = .next (b :: bs, t) ↔ ∃ u, fetch8 s = .next (b, u) ∧ fetchBytes n u = .next (bs, t) := by
  simp [fetchBytes, Result.andThen_next]

theorem fetchBytes_nil : fetchBytes 0 s = .next ([], t) ↔ s = t := by simp [fetchBytes]

theorem fetchBytes_length {n : Nat} {bs : List Byte} (h : fetchBytes n s = .next (bs, t)) : bs.length = n := by
  induction n generalizing s bs with
  | zero => cases h; rfl
  | succ n ih =>
    simp only [fetchBytes, Result.andThen_next] at h
    obtain ⟨⟨b, s1⟩, -, ⟨cs, s2⟩, hcs, hbs⟩ := h
    cases hbs
    rw [List.length_cons, ih hcs]

theorem fetch8_updates {p : Permit} {b : Byte} (hp : p.pc) (h : fetch8 s = .next (b, t)) : Updates p s t := by
  obtain ⟨-, e⟩ := fetch8_next.1 h
  cases e
  exact (Updates.refl.afterRead s.pc).setPc hp _

theorem fetchBytes_updates {p : Permit} {n : Nat} {bs : List Byte} (hp : p.pc)
    (h : fetchBytes n s = .next (bs, t)) : Updates p s t := by
  induction n generalizing s bs with
  | zero => cases h; exact .refl
  | succ n ih =>
    simp only [fetchBytes, Result.andThen_next] at h
    obtain ⟨⟨b, s1⟩, hb, ⟨cs, s2⟩, hcs, hbs⟩ := h
    cases hbs
    exact (fetch8_updates hp hb).trans (ih hcs)

/-- The bytes a step fetches after the opcode for an entry: its stream bytes but `STOP`'s second (R1103). -/
def operandBytes (n : Byte) (w : Word) : Entry → List Byte
  | .op _ => []
  | .op8 _ _ => [n]
  | .op16 _ _ => [loByte w, hiByte w]
  | .opPad _ => []
  | .extend => [n]
  | .miss => []

/-- What a fetch does after the opcode, by the opcode's entry. -/
def fetchRest (op : Byte) (s : State) : Entry → Result (Instr × State)
  | .op i => .next (i, s)
  | .miss => .next (.unassigned op, s)
  | .opPad i => .next (i, s)
  | .extend => (fetch8 s).andThen fun (op2, s2) => .next (lookupExtended op2, s2)
  | .op8 before f => (checkBefore before s).andThen fun s2 => (fetch8 s2).andThen fun (n, s3) => .next (f n, s3)
  | .op16 before f => (checkBefore before s).andThen fun s2 => (fetch16 s2).andThen fun (n, s3) => .next (f n, s3)

theorem fetchInstr_eq (s : State) :
    fetchInstr s = (fetch8 s).andThen fun (op, s1) => fetchRest op s1 (lookupPrimary op) := by
  refine congrArg (Result.andThen (fetch8 s)) (funext fun ⟨op, s1⟩ => ?_)
  dsimp only
  cases lookupPrimary op <;> rfl

theorem fetch16_next {w : Word} :
    fetch16 s = .next (w, t) ↔ fetchBytes 2 s = .next ([loByte w, hiByte w], t) := by
  simp only [fetch16, fetchBytes_cons, fetchBytes_nil, Result.andThen_next]
  constructor
  · rintro ⟨⟨lo, s1⟩, h1, ⟨hi, s2⟩, h2, e⟩
    cases e
    exact ⟨s1, by rwa [loByte_wordOf], s2, by rwa [hiByte_wordOf], rfl⟩
  · rintro ⟨s1, h1, s2, h2, rfl⟩
    exact ⟨_, h1, _, h2, by rw [wordOf_bytes]⟩

theorem fetch8_holds {b : Byte} {ns : List RegName} (h : fetch8 s = .next (b, t)) : t.Holds ns ↔ s.Holds ns := by
  obtain ⟨-, e⟩ := fetch8_next.1 h
  cases e
  exact holds_afterRead s s.pc ns

theorem checkBefore_next {ns : List RegName} : checkBefore ns s = .next t ↔ s.Holds ns ∧ t = s := checked_next

theorem fetchRest_next {op : Byte} {e : Entry} : fetchRest op s e = .next (i, t) ↔ ∃ n w, i = e.instr op n w ∧
    s.Holds e.slotsBefore ∧ fetchBytes (operandBytes n w e).length s = .next (operandBytes n w e, t) := by
  cases e with
  | op j => simp [fetchRest, Entry.instr, Entry.slotsBefore, operandBytes, fetchBytes_nil, @eq_comm _ j i]
  | miss => simp [fetchRest, Entry.instr, Entry.slotsBefore, operandBytes, fetchBytes_nil, @eq_comm _ i]
  | opPad j => simp [fetchRest, Entry.instr, Entry.slotsBefore, operandBytes, fetchBytes_nil, @eq_comm _ j i]
  | extend =>
    simp only [fetchRest, Result.andThen_next, Entry.instr, Entry.slotsBefore, operandBytes, holds_nil, true_and,
      List.length_cons, List.length_nil, fetchBytes_cons, fetchBytes_nil]
    constructor
    · rintro ⟨⟨n, s1⟩, h, e⟩
      cases e
      exact ⟨n, 0, rfl, _, h, rfl⟩
    · rintro ⟨n, -, rfl, _, h, rfl⟩
      exact ⟨_, h, rfl⟩
  | op8 before f =>
    simp only [fetchRest, Result.andThen_next, checkBefore_next, Entry.instr, Entry.slotsBefore, operandBytes,
      List.length_cons, List.length_nil, fetchBytes_cons, fetchBytes_nil]
    constructor
    · rintro ⟨_, ⟨hb, rfl⟩, ⟨n, s1⟩, h, e⟩
      cases e
      exact ⟨n, 0, rfl, hb, _, h, rfl⟩
    · rintro ⟨n, -, rfl, hb, _, h, rfl⟩
      exact ⟨_, ⟨hb, rfl⟩, _, h, rfl⟩
  | op16 before f =>
    simp only [fetchRest, Result.andThen_next, checkBefore_next, Entry.instr, Entry.slotsBefore, operandBytes,
      List.length_cons, List.length_nil]
    constructor
    · rintro ⟨_, ⟨hb, rfl⟩, ⟨w, s1⟩, h, e⟩
      cases e
      exact ⟨0, w, rfl, hb, fetch16_next.1 h⟩
    · rintro ⟨-, w, rfl, hb, h⟩
      exact ⟨_, ⟨hb, rfl⟩, _, fetch16_next.2 h, rfl⟩

/-- The instruction a fetch gives is that of the first byte's entry, with its bytes fetched in order, once the slots
read before them are written. -/
theorem fetchInstr_next : fetchInstr s = .next (i, t) ↔ ∃ op n w, i = (lookupPrimary op).instr op n w ∧
    s.Holds (lookupPrimary op).slotsBefore ∧ fetchBytes ((operandBytes n w (lookupPrimary op)).length + 1) s =
      .next (op :: operandBytes n w (lookupPrimary op), t) := by
  simp only [fetchInstr_eq, Result.andThen_next, fetchRest_next, fetchBytes_cons]
  constructor
  · rintro ⟨⟨op, s1⟩, h1, n, w, rfl, hb, h2⟩
    exact ⟨op, n, w, rfl, (fetch8_holds h1).1 hb, s1, h1, h2⟩
  · rintro ⟨op, n, w, rfl, hb, s1, h1, h2⟩
    exact ⟨_, h1, n, w, rfl, (fetch8_holds h1).2 hb, h2⟩

/-! ### What a step that answers next is made of -/

/-- The permit of a whole step: everything. -/
def Permit.all : Permit := ⟨fun _ => True, True, ⟨true, true, true, true⟩, fun _ => True, True, True, True, True⟩

theorem Permit.all_pair (rr : Reg16) : Permit.all.Pair rr := by
  cases rr with
  | af => exact ⟨trivial, rfl⟩
  | sp => trivial
  | _ => exact ⟨trivial, trivial⟩

theorem Updates.all {p : Permit} (h : Updates p s t) : Updates .all s t := by
  induction h with
  | refl => exact .refl
  | setReg8 _ _ v ih => exact ih.setReg8 trivial v
  | setReg16 _ _ v ih => exact ih.setReg16 (Permit.all_pair _) v
  | setFlags _ _ ih => exact ih.setFlags (by simp [FlagSet.covers, Permit.all])
  | setPc _ _ w ih => exact ih.setPc trivial w
  | control _ _ _ _ ih => exact ih.control (.inl trivial) (.inl trivial) (.inl trivial)
  | acknowledge _ w ih => exact ih.acknowledge w
  | afterRead _ a ih => exact ih.afterRead a
  | afterWrite _ _ v ih => exact ih.afterWrite trivial v

/-- From `s` to `t` by updates and then a charge of at most 6 cycles. -/
def Charged (s t : State) : Prop := ∃ u k, Updates .all s u ∧ k ≤ 5 ∧ t = u.owing k

theorem charged_promoteIme {b : Bool} (h : Charged s t) : Charged s (promoteIme b i t) := by
  obtain ⟨u, k, hu, hk, rfl⟩ := h
  unfold promoteIme
  split
  · exact ⟨_, k, hu.control (a := true) (b := false) (c := u.halted) (.inl trivial) (.inl trivial) (.inr rfl), hk, rfl⟩
  · exact ⟨u, k, hu, hk, rfl⟩

theorem fetchInstr_updates (h : fetchInstr s = .next (i, t)) : i.wf = true ∧ Updates .all s t := by
  obtain ⟨op, n, w, rfl, -, hf⟩ := fetchInstr_next.1 h
  exact ⟨wf_instr op n w, fetchBytes_updates trivial hf⟩

theorem executeInstruction_charged (h : executeInstruction s = .next t) : Charged s t := by
  simp only [executeInstruction, Result.andThen_next] at h
  obtain ⟨⟨i, s1⟩, h1, s2, h2, e⟩ := h
  cases e
  obtain ⟨hwf, hf⟩ := fetchInstr_updates h1
  obtain ⟨u, cost, hu, rfl, ⟨-, hc⟩, -⟩ := exec_ran hwf h2
  exact charged_promoteIme ⟨u, cost - 1, hf.trans hu.all, by omega, rfl⟩

theorem interruptEntry_charged (h : interruptEntry src s = .next t) : Charged s t := by
  obtain ⟨-, -, -, rfl⟩ := interruptEntry_next.1 h
  have ht : Updates .all s (({ s with ime := false, imeSched := false } : State).acknowledge (intVector src)) :=
    (Updates.refl.control (c := s.halted) (.inl trivial) (.inl trivial) (.inr rfl)).acknowledge _
  exact ⟨_, 4, (ht.afterPush ⟨trivial, trivial, trivial⟩ s.pc).setPc trivial (intVector src), by decide, rfl⟩

theorem serviceOrExecute_charged (h : serviceOrExecute s = .next t) : Charged s t := by
  unfold serviceOrExecute at h
  split at h
  · split at h
    · exact interruptEntry_charged h
    · exact executeInstruction_charged h
  · exact executeInstruction_charged h

theorem boundaryStep_charged (h : boundaryStep s = .next t) : Charged s t := by
  unfold boundaryStep at h
  split at h
  · split at h
    · exact ⟨s, 0, .refl, by decide, charge_next.1 h⟩
    · obtain ⟨u, k, hu, hk, rfl⟩ := serviceOrExecute_charged (haltedAtFailure_eq_next.1 h)
      have hw : Updates .all s { s with halted := false } :=
        Updates.refl.control (a := s.ime) (b := s.imeSched) (.inr rfl) (.inr rfl) (.inl trivial)
      exact ⟨u, k, hw.trans hu, hk, rfl⟩
  · exact serviceOrExecute_charged h

/-- A step that answers next: an ended session stays, a tick that owes ticks counts one down, a boundary runs a chain
and charges for it. -/
theorem step_next (h : step s = .next t) : t = s ∨ (∃ k, s.remaining = k + 1 ∧ t = advance { s with remaining := k }) ∨
    ∃ u, Charged s u ∧ t = advance u := by
  by_cases hs : s.status = .running
  · cases hk : s.remaining with
    | succ k =>
      rw [step_owing hs hk] at h
      cases h
      exact .inr (.inl ⟨k, rfl, rfl⟩)
    | zero =>
      simp only [step_boundary hs hk, Result.andThen_next] at h
      obtain ⟨u, hu, e⟩ := h
      cases e
      exact .inr (.inr ⟨u, boundaryStep_charged hu, rfl⟩)
  · rw [step_ended hs] at h
    cases h
    exact .inl rfl

end Sys2Proof.Machine
end

section
/-! What every step keeps (R133, R137, R221), where a session starts (R140 to R142, R1301) and what `load_program`
writes (R1310). -/
namespace Sys2Proof.Machine

open Sys2Proof

variable {s t u : State} {a : Word}

/-! ### ROM -/

/-- No chain of updates changes a byte of ROM: a write to ROM is ignored, and no other address names its cell. -/
theorem Updates.stored_rom {p : Permit} (h : Updates p s t) (ha : region a = .rom) : t.stored a = s.stored a := by
  induction h with
  | refl => rfl
  | setReg8 _ _ v ih => rw [stored_setReg8, ih]
  | setReg16 _ _ v ih => rw [stored_setReg16, ih]
  | setFlags _ _ ih => exact ih
  | setPc _ _ w ih => exact ih
  | control _ _ _ _ ih => exact ih
  | acknowledge _ w ih => exact ih
  | afterRead _ b ih => rw [stored_afterRead, ih]
  | @afterWrite t _ b _ v ih =>
    by_cases hb : region b = .rom
    · have hw : t.afterWrite b v = t := by simp [State.afterWrite, hb]
      rw [hw, ih]
    · rw [stored_afterWrite_ne t b a v (cellOf_rom ha hb) fun _ => by rw [ha]; decide, ih]

/-- What a read of ROM answers depends on the stored byte alone. -/
theorem readVal_rom (ha : region a = .rom) (h : t.stored a = s.stored a) : t.readVal a = s.readVal a := by
  simp only [State.readVal, ha, h]

/-- Settles O59: a step's updates keep the bytes of ROM, and so what a read of ROM answers. -/
theorem romImmutable : Obligations.RomImmutable := by
  intro s t h a ha
  suffices hs : t.stored a = s.stored a from ⟨hs, readVal_rom ha hs⟩
  obtain rfl | ⟨k, -, rfl⟩ | ⟨_, ⟨u, k, hu, -, rfl⟩, rfl⟩ := step_next h
  · rfl
  · rfl
  · exact hu.stored_rom ha

/-! ### The invariant -/

/-- The rest of a tick keeps the invariant. -/
theorem inv_advance (h : s.Inv) : (advance s).Inv := by
  obtain ⟨hm, hr, hd⟩ := h
  exact ⟨hm, hr, (Nat.sub_le s.dmaWindow 1).trans hd⟩

theorem inv_charged (hs : s.Inv) (h : Charged s t) : t.Inv := by
  obtain ⟨u, k, hu, hk, rfl⟩ := h
  obtain ⟨hm, -, hd⟩ := hs
  refine ⟨hu.memoryInv hm, hk, ?_⟩
  rcases hu.dmaWindow with h | h
  · exact h.trans_le hd
  · exact h.le

/-- Settles O57: the updates of a step keep the memory list canonical, and its charge is at most 5 ticks. -/
theorem invariantKept : Obligations.InvariantKept := by
  intro s t hs h
  obtain rfl | ⟨k, hk, rfl⟩ | ⟨u, hu, rfl⟩ := step_next h
  · exact hs
  · obtain ⟨hm, hr, hd⟩ := hs
    exact inv_advance ⟨hm, by rw [hk] at hr; exact Nat.le_of_succ_le hr, hd⟩
  · exact inv_advance (inv_charged hs hu)

/-- Settles O58. -/
theorem invariantAtReset : Obligations.InvariantAtReset := by
  refine ⟨⟨⟨List.Pairwise.nil, ?_⟩, by decide⟩, ⟨⟨List.Pairwise.nil, ?_⟩, by decide⟩⟩
  · exact fun x hx => absurd hx List.not_mem_nil
  · exact fun x hx => absurd hx List.not_mem_nil

/-! ### Written slots -/

theorem unwritten_step (h : step s = .next t) : ∀ n ∈ t.unwritten, n ∈ s.unwritten := by
  obtain rfl | ⟨k, -, rfl⟩ | ⟨_, ⟨u, k, hu, -, rfl⟩, rfl⟩ := step_next h
  · exact fun _ => id
  · exact fun _ => id
  · exact hu.quiet.unwritten

/-! ### Reset -/

/-- Settles O55. -/
theorem resetValues : Obligations.ResetValues := by
  refine ⟨by decide, rfl, rfl, rfl, rfl, rfl, rfl, rfl, rfl, rfl, rfl, fun n => ?_⟩
  cases n <;> decide

/-! ### `load_program` -/

/-- A lookup after bytes were stored from `base` on: the byte of its place, the old answer outside. -/
theorem lookup_storeBytes (m : List Host.Cell) (base : Nat) (bytes : List Byte) (b : Nat) :
    Memory.lookup (storeBytes m base bytes) b =
      if base ≤ b ∧ b < base + bytes.length then bytes[b - base]? else Memory.lookup m b := by
  induction bytes generalizing m base with
  | nil => rw [if_neg (by simp)]; rfl
  | cons x rest ih =>
    rw [storeBytes, ih, List.length_cons]
    rcases Nat.lt_trichotomy b base with h | rfl | h
    · rw [if_neg (by omega), if_neg (by omega), Memory.lookup_store, if_neg h.ne]
    · rw [if_neg (by omega), if_pos (by omega), Memory.lookup_store, if_pos rfl, Nat.sub_self, List.getElem?_cons_zero]
    · rw [Memory.lookup_store, if_neg h.ne', show b - base = b - (base + 1) + 1 by omega, List.getElem?_cons_succ]
      exact if_congr (by omega) rfl rfl

/-- Settles O56: the bytes lie in ROM, where an address is its own cell. -/
theorem loadProgramWritesRom : Obligations.LoadProgramWritesRom := by
  intro s bytes base
  refine ⟨fun ht hs hlen => ?_, fun h => if_neg fun ⟨⟨ht, hs⟩, hlen⟩ => h ⟨ht, hs, hlen⟩⟩
  refine ⟨_, if_pos ⟨⟨ht, hs⟩, hlen⟩, rfl, fun a k ha hk => ?_, fun a ha => ?_⟩
  · have hcell : cellOf a = base + k := by
      have hr : region a = .rom := region_eq_iff.2 ⟨Nat.zero_le _, by simp only [Region.bounds]; omega⟩
      rw [cellOf_eq, hr, if_neg (by decide), ha]
    rw [State.stored, hcell, lookup_storeBytes, if_pos (by omega), Nat.add_sub_cancel_left]
  · exact (lookup_storeBytes _ _ _ _).trans (if_neg (by omega))

end Sys2Proof.Machine
end

section
/-! Steps at a boundary (R421, R425, R430 to R432): the instruction that is fetched, the halted wait, and what
becomes of IME. -/
namespace Sys2Proof.Machine

open Sys2Proof

variable {s t u : State} {i : Instr}

/-! ### The instruction that is fetched -/

theorem encode_length (i : Instr) : (encode i).length = (tableRow i).length := by cases i <;> rfl

theorem fetchLength_of_ne_stop (h : i ≠ .stop) : fetchLength i = (tableRow i).length := by
  unfold fetchLength
  split
  · exact absurd rfl h
  · rfl

/-- The first byte of an entry's encoding is the entry's opcode. -/
theorem head_encode_instr (op n : Byte) (w : Word) : (encode ((lookupPrimary op).instr op n w)).head? = some op := by
  rw [encode_instr]
  cases lookupPrimary op <;> rfl

theorem bytes_eq_operandBytes {op n : Byte} {w : Word} {e : Entry} (h : ∀ j, e ≠ .opPad j) :
    e.bytes op n w = op :: operandBytes n w e := by
  cases e with
  | opPad j => exact absurd rfl (h j)
  | _ => rfl

/-- The bytes fetched for an instruction are those that the fetch takes for the entry it decodes to. -/
theorem bytes_of_decode {bytes pad : List Byte} (hlen : bytes.length = fetchLength i)
    (hd : decode (bytes ++ pad) = .ok (i, [])) :
    ∃ op n w, i = (lookupPrimary op).instr op n w ∧ bytes = op :: operandBytes n w (lookupPrimary op) := by
  obtain ⟨op, n, w, rfl, hb⟩ := decode_eq_ok hd
  refine ⟨op, n, w, rfl, ?_⟩
  by_cases hstop : (lookupPrimary op).instr op n w = .stop
  · obtain rfl : (0x10 : Byte) = op :=
      Option.some.inj (hstop ▸ head_encode_instr op n w : (encode .stop).head? = some op)
    rw [hstop] at hlen
    obtain ⟨b, rfl⟩ := List.length_eq_one_iff.1 hlen
    rcases hb with hb | ⟨-, x, hb⟩ <;> cases hb <;> rfl
  · have hpad : ∀ j, lookupPrimary op ≠ .opPad j := fun j hj => by
      obtain ⟨rfl, rfl⟩ := lookupPrimary_opPad hj
      exact hstop rfl
    rw [fetchLength_of_ne_stop hstop, ← encode_length, encode_instr] at hlen
    rw [← bytes_eq_operandBytes hpad]
    exact (List.append_inj (hb.resolve_right fun ⟨h, _⟩ => hstop h) hlen).1

/-- Where the fetched bytes decode to an instruction, the fetch gives it. -/
theorem fetchInstr_of_decode {bytes pad : List Byte} (hf : fetchBytes (fetchLength i) s = .next (bytes, t))
    (hd : decode (bytes ++ pad) = .ok (i, [])) (hb : s.Holds (sourcesBefore i)) : fetchInstr s = .next (i, t) := by
  have hlen := fetchBytes_length hf
  obtain ⟨op, n, w, rfl, rfl⟩ := bytes_of_decode hlen hd
  rw [← hlen] at hf
  exact fetchInstr_next.2 ⟨op, n, w, rfl, by rwa [← sourcesBefore_instr op n w], hf⟩

/-- Settles O45. -/
theorem stepRunsDecoded : Obligations.StepRunsDecoded := by
  intro s s1 bytes pad i hs hf hd hb
  rw [step_runsInstruction hs, executeInstruction, fetchInstr_of_decode hf hd hb]
  cases h : exec i s1 with
  | next s2 => simp only [Result.next_andThen, h]
  | fault f => simp only [Result.next_andThen, Result.fault_andThen, h]
  | refused r => simp only [Result.next_andThen, Result.refused_andThen, h]

/-- Settles O46, by induction on the bytes: each is read from plain storage, which changes nothing, and pc advances. -/
theorem fetchReadsStored : Obligations.FetchReadsStored := by
  intro s bytes
  induction bytes generalizing s with
  | nil => intro _ _; simp [fetchBytes, State.setPc]
  | cons b bs ih =>
    intro hd hp
    obtain ⟨hv, hr⟩ := read_plain (by simpa using hp 0 b rfl)
    have hb : fetch8 s = .next (b, s.setPc (s.pc + 1)) := fetch8_next.2 ⟨admits_of_closed hd _, by rw [hv, hr]⟩
    refine fetchBytes_cons.2 ⟨_, hb, ?_⟩
    have hpc (k : Nat) : s.pc + 1 + BitVec.ofNat 16 k = s.pc + BitVec.ofNat 16 (k + 1) := by
      rw [BitVec.ofNat_add, BitVec.add_comm (BitVec.ofNat 16 k), ← BitVec.add_assoc]; rfl
    have hrest := ih (s.setPc (s.pc + 1)) hd fun k v hk => by
      rw [State.setPc_pc, hpc]
      exact hp (k + 1) v hk
    rw [hrest, State.setPc_pc, hpc]
    rfl

/-- Settles O47. -/
theorem idleTickCountsDown : Obligations.IdleTickCountsDown := fun _ _ hs hk => step_owing hs hk

theorem charge_one (h : s.remaining = 0) : charge 1 s = .next s := by
  cases s
  cases h
  rfl

/-- Settles O49: the waking step is the awake core's, but for `halted` after a DecodeFailure. -/
theorem haltedWaitAndWake : Obligations.HaltedWaitAndWake := by
  intro s hs h0 hh
  refine ⟨fun hirq => ?_, fun hirq => ?_⟩
  · rw [step_boundary hs h0, boundaryStep_wait hh hirq, charge_one h0]
    rfl
  · obtain ⟨src, hsrc⟩ := Option.ne_none_iff_exists'.1 hirq
    rw [step_boundary hs h0, boundaryStep_wake hh hsrc,
      step_boundary (s := { s with halted := false }) hs h0, boundaryStep_awake rfl]
    rcases serviceOrExecute { s with halted := false } with t | (⟨op, a, u⟩ | ⟨r, u⟩) | r <;> rfl

/-! ### IME -/

/-- The opcode 0xF3 is that of `DI` alone. -/
theorem instr_di {op n : Byte} {w : Word} : (lookupPrimary op).instr op n w = .di ↔ op = 0xF3 := by
  constructor
  · exact fun h => (Option.some.inj (h ▸ head_encode_instr op n w : (encode .di).head? = some op)).symm
  · rintro rfl
    rfl

/-- The opcode 0xD9 is that of `RETI` alone. -/
theorem instr_reti {op n : Byte} {w : Word} : (lookupPrimary op).instr op n w = .reti ↔ op = 0xD9 := by
  constructor
  · exact fun h => (Option.some.inj (h ▸ head_encode_instr op n w : (encode .reti).head? = some op)).symm
  · rintro rfl
    rfl

/-- The permit of a fetch: pc alone. -/
def Permit.fetch : Permit :=
  ⟨fun _ => False, False, ⟨false, false, false, false⟩, fun _ => False, True, False, False, False⟩

theorem fetchBytes_ime {n : Nat} {bs : List Byte} (h : fetchBytes n s = .next (bs, t)) : t.ime = s.ime :=
  (fetchBytes_updates (p := .fetch) trivial h).controlFlags.1.resolve_left id

theorem isDI_iff : isDI i = true ↔ i = .di := by
  unfold isDI
  split
  · simp
  · rename_i hne
    simpa using hne

/-- IME after an instruction that starts with IME = 0: only `RETI` turns it on. -/
theorem exec_ime (hwf : i.wf = true) (h : exec i s = .next t) (hime : s.ime = false) : t.ime = true ↔ i = .reti := by
  by_cases hr : i = .reti
  · subst hr
    obtain ⟨-, rfl⟩ := retInterrupt_next.1 h
    simp
  · suffices ht : t.ime = false by simp [ht, hr]
    by_cases hd : i = .di
    · subst hd
      cases h
      rfl
    · obtain ⟨-, hframe, -⟩ := controlStateUnchanged i s t hwf h
      exact (hframe hd hr).trans hime

/-- What the promotion leaves: IME on and `ime_sched` off but for `DI`, which has turned both off itself. -/
theorem promoteIme_sched (h : exec i s = .next t) :
    (promoteIme true i t).imeSched = false ∧ ((promoteIme true i t).ime = true ↔ i ≠ .di) := by
  by_cases hd : i = .di
  · subst hd
    cases h
    simp [promoteIme, isDI]
  · have hn : isDI i = false := Bool.eq_false_iff.2 fun hi => hd (isDI_iff.1 hi)
    simp [promoteIme, hn, hd]

/-- Settles O50: the fetch leaves IME and `ime_sched` alone, and the first byte tells `DI` and `RETI`. -/
theorem eiTakesEffectLate : Obligations.EiTakesEffectLate := by
  intro s s1 t op hs hime hop h
  simp only [step_runsInstruction hs, executeInstruction, Result.andThen_next] at h
  obtain ⟨_, ⟨⟨i, s2⟩, hf, s3, hx, e⟩, e'⟩ := h
  cases e
  cases e'
  obtain ⟨op', n, w, rfl, -, hb⟩ := fetchInstr_next.1 hf
  obtain rfl : op = op' := by
    obtain ⟨u, hu, -⟩ := fetchBytes_cons.1 hb
    rw [hop] at hu
    cases hu
    rfl
  have hime2 : s2.ime = false := (fetchBytes_ime hb).trans hime
  have hwf := wf_instr op n w
  refine ⟨fun hsched => ?_, fun hsched => ?_⟩
  · obtain ⟨hoff, hon⟩ := promoteIme_sched hx
    rw [hsched]
    exact ⟨hoff, hon.trans (not_congr instr_di)⟩
  · rw [hsched]
    exact (exec_ime hwf hx hime2).trans instr_reti

end Sys2Proof.Machine
end

section
/-! How a session ends (R13, R134, R141, R433): a rule that does not answer next leaves a state that has ended, and
faults with UninitialisedRead only at a slot that was unwritten when it began. Each rule inherits this from its
parts. -/
namespace Sys2Proof.Machine

open Sys2Proof

variable {s t : State} {α β : Type} {q : α → Prop} {q' : β → Prop} {cost c d : Nat}

/-! ### Lawful answers -/

/-- What an operation of a rule that began in `s` may answer: next with a result for which `q` holds, a fault or a
refusal that leaves an ended state, and UninitialisedRead only for a slot unwritten in `s`. -/
def Lawful (s : State) (q : α → Prop) : Result α → Prop
  | .next v => q v
  | .fault f => f.final.status ≠ .running ∧ ∀ r u, f = .uninitialisedRead r u → r ∈ s.unwritten
  | .refused r => ∃ u, r.final = some u ∧ u.status ≠ .running

theorem Lawful.andThen {x : Result α} {f : α → Result β} (h : Lawful s q x) (hf : ∀ v, q v → Lawful s q' (f v)) :
    Lawful s q' (x.andThen f) := by
  cases x with
  | next v => exact hf v h
  | fault r => exact h
  | refused r => exact h

theorem Lawful.imp {q' : α → Prop} {x : Result α} (h : Lawful s q x) (hq : ∀ v, x = .next v → q v → q' v) :
    Lawful s q' x := by
  cases x with
  | next v => exact hq v rfl h
  | fault r => exact h
  | refused r => exact h

theorem checked_lawful (h : Quiet s t) (names : List RegName) (v : α) :
    Lawful s (fun _ => True) (checked names v t) := by
  unfold checked
  split
  · trivial
  · rename_i r hr
    refine ⟨nofun, fun _ _ e => ?_⟩
    cases e
    exact h.unwritten r (by simpa using List.find?_some hr)

theorem dmaConflict_lawful (t : State) : Lawful s q (dmaConflict t) := ⟨_, rfl, nofun⟩

/-! ### The operations -/

section
variable (h : Quiet s t)
include h

theorem charge_lawful (cost : Nat) : Lawful s (Quiet s) (charge cost t) := h.owing _

theorem busRead_lawful (a : Word) : Lawful s (fun p => Quiet s p.2) (busRead a t) := by
  unfold busRead
  split
  · exact dmaConflict_lawful t
  · exact h.afterRead a

theorem busWrite_lawful (a : Word) (v : Byte) : Lawful s (Quiet s) (busWrite a v t) := by
  unfold busWrite
  split
  · exact dmaConflict_lawful t
  · exact h.afterWrite a v

theorem busWrite16_lawful (a w : Word) : Lawful s (Quiet s) (busWrite16 a w t) :=
  (busWrite_lawful h a _).andThen fun _ h1 => busWrite_lawful h1 _ _

theorem fetch8_lawful : Lawful s (fun p => Quiet s p.2) (fetch8 t) :=
  (busRead_lawful h _).andThen fun ⟨_, _⟩ h1 => h1.setPc _

theorem fetch16_lawful : Lawful s (fun p => Quiet s p.2) (fetch16 t) :=
  (fetch8_lawful h).andThen fun ⟨_, _⟩ h1 => (fetch8_lawful h1).andThen fun ⟨_, _⟩ h2 => h2

theorem pushByte_lawful (v : Byte) : Lawful s (Quiet s) (pushByte v t) :=
  (checked_lawful h _ _).andThen fun _ _ => busWrite_lawful (h.setReg16 _ _) _ v

theorem push16_lawful (v : Word) : Lawful s (Quiet s) (push16 v t) :=
  (pushByte_lawful h _).andThen fun _ h1 => pushByte_lawful h1 _

theorem popByte_lawful : Lawful s (fun p => Quiet s p.2) (popByte t) :=
  (checked_lawful h _ _).andThen fun sp _ => (busRead_lawful h _).andThen fun ⟨_, _⟩ h1 =>
    show Quiet s _ from h1.setReg16 .sp (sp + 1)

theorem pop16_lawful : Lawful s (fun p => Quiet s p.2) (pop16 t) :=
  (popByte_lawful h).andThen fun ⟨_, _⟩ h1 => (popByte_lawful h1).andThen fun ⟨_, _⟩ h2 => h2

theorem returnToCaller_lawful : Lawful s (Quiet s) (returnToCaller t) :=
  (pop16_lawful h).andThen fun ⟨_, _⟩ h1 => h1.setPc _

theorem carryIn_lawful (b : Bool) : Lawful s (fun _ => True) (carryIn b t) := by
  cases b with
  | true => exact checked_lawful h _ _
  | false => trivial

theorem condHolds_lawful (cc : Cond) : Lawful s (fun _ => True) (condHolds cc t) := by
  cases cc with
  | nz => exact (checked_lawful h _ _).andThen fun _ _ => trivial
  | z => exact checked_lawful h _ _
  | nc => exact (checked_lawful h _ _).andThen fun _ _ => trivial
  | c => exact checked_lawful h _ _

theorem resolveSource8_lawful (src : Src8) : Lawful s (fun p => Quiet s p.2) (resolveSource8 src t) := by
  cases src with
  | imm8 n => exact h
  | reg r => exact (checked_lawful h _ _).andThen fun _ _ => h
  | ind rr => exact (checked_lawful h _ _).andThen fun _ _ => busRead_lawful h _
  | indhiC => exact (checked_lawful h _ _).andThen fun _ _ => busRead_lawful h _
  | ind16 a => exact busRead_lawful h a
  | indhi8 a => exact busRead_lawful h _

theorem resolveTarget8_lawful (tgt : Tgt8) : Lawful s (fun _ => True) (resolveTarget8 tgt t) := by
  cases tgt with
  | reg r => trivial
  | ind rr => exact (checked_lawful h _ _).andThen fun _ _ => trivial
  | indhiC => exact (checked_lawful h _ _).andThen fun _ _ => trivial
  | ind16 a => trivial
  | indhi8 a => trivial

theorem writeHandle8_lawful (x : Handle8) (v : Byte) : Lawful s (Quiet s) (writeHandle8 x v t) := by
  cases x with
  | reg r => exact h.setReg8 r v
  | addr a => exact busWrite_lawful h a v

theorem resolveSource16_lawful (src : Src16) : Lawful s (fun _ => True) (resolveSource16 src t) := by
  cases src with
  | imm16 n => trivial
  | reg rr => exact checked_lawful h _ _

theorem writeHandle16_lawful (x : Handle16) (v : Word) : Lawful s (Quiet s) (writeHandle16 x v t) := by
  cases x with
  | reg rr => exact h.setReg16 rr v
  | addr a => exact busWrite16_lawful h a v

end

/-! ### The rules -/

section
variable (h : Quiet s t)
include h

theorem load8_lawful (src : Src8) (tgt : Tgt8) : Lawful s (Quiet s) (load8 src tgt cost t) :=
  (resolveSource8_lawful h src).andThen fun ⟨_, _⟩ h1 => (resolveTarget8_lawful h1 tgt).andThen fun _ _ =>
    (writeHandle8_lawful h1 _ _).andThen fun _ h2 => charge_lawful h2 _

theorem load8Step_lawful (src : Src8) (tgt : Tgt8) (delta : Word) :
    Lawful s (Quiet s) (load8Step src tgt delta cost t) :=
  (resolveSource8_lawful h src).andThen fun ⟨_, _⟩ h1 => (resolveTarget8_lawful h1 tgt).andThen fun _ _ =>
    (writeHandle8_lawful h1 _ _).andThen fun _ h2 => (checked_lawful h2 _ _).andThen fun _ _ =>
      charge_lawful (h2.setReg16 _ _) _

theorem load16_lawful (src : Src16) (tgt : Tgt16) : Lawful s (Quiet s) (load16 src tgt cost t) :=
  (resolveSource16_lawful h src).andThen fun _ _ => (writeHandle16_lawful h _ _).andThen fun _ h1 =>
    charge_lawful h1 _

theorem loadHLSP_lawful (e : Byte) : Lawful s (Quiet s) (loadHLSP e cost t) :=
  (checked_lawful h _ _).andThen fun _ _ => charge_lawful ((h.setReg16 _ _).setFlags _ _ _ _) _

theorem push_lawful (rr : Reg16) : Lawful s (Quiet s) (push rr cost t) :=
  (checked_lawful h _ _).andThen fun _ _ => (push16_lawful h _).andThen fun _ h1 => charge_lawful h1 _

theorem pop_lawful (rr : Reg16) : Lawful s (Quiet s) (pop rr cost t) :=
  (pop16_lawful h).andThen fun ⟨_, _⟩ h1 => charge_lawful (h1.setReg16 _ _) _

theorem alu8_lawful (op : AluOp) (src : Src8) : Lawful s (Quiet s) (alu8 op src cost t) :=
  (resolveSource8_lawful h src).andThen fun ⟨_, _⟩ h1 => (checked_lawful h1 _ _).andThen fun _ _ =>
    (carryIn_lawful h1 _).andThen fun _ _ => charge_lawful ((h1.writeAluResult _ _).setFlags _ _ _ _) _

theorem unary8_lawful (fn : Byte → AluOut) (src : Src8) (tgt : Tgt8) :
    Lawful s (Quiet s) (unary8 fn src tgt cost t) :=
  (resolveSource8_lawful h src).andThen fun ⟨_, _⟩ h1 => (resolveTarget8_lawful h1 tgt).andThen fun _ _ =>
    (writeHandle8_lawful h1 _ _).andThen fun _ h2 => charge_lawful (h2.setFlags _ _ _ _) _

theorem decimalAdjust_lawful : Lawful s (Quiet s) (decimalAdjust cost t) :=
  (checked_lawful h _ _).andThen fun _ _ => (checked_lawful h _ _).andThen fun _ _ =>
    (checked_lawful h _ _).andThen fun _ _ => (checked_lawful h _ _).andThen fun _ _ =>
      charge_lawful ((h.setReg8 _ _).setFlags _ _ _ _) _

theorem complementA_lawful : Lawful s (Quiet s) (complementA cost t) :=
  (checked_lawful h _ _).andThen fun _ _ => charge_lawful ((h.setReg8 _ _).setFlags _ _ _ _) _

theorem setCarry_lawful : Lawful s (Quiet s) (setCarry cost t) := charge_lawful (h.setFlags _ _ _ _) _

theorem complementCarry_lawful : Lawful s (Quiet s) (complementCarry cost t) :=
  (checked_lawful h _ _).andThen fun _ _ => charge_lawful (h.setFlags _ _ _ _) _

theorem addHL_lawful (rr : Reg16) : Lawful s (Quiet s) (addHL rr cost t) :=
  (checked_lawful h _ _).andThen fun _ _ => (checked_lawful h _ _).andThen fun _ _ =>
    charge_lawful ((h.setReg16 _ _).setFlags _ _ _ _) _

theorem add16To_lawful (rr : Reg16) (delta : Word) : Lawful s (Quiet s) (add16To rr delta cost t) :=
  (checked_lawful h _ _).andThen fun _ _ => charge_lawful (h.setReg16 _ _) _

theorem addSP_lawful (e : Byte) : Lawful s (Quiet s) (addSP e cost t) :=
  (checked_lawful h _ _).andThen fun _ _ => charge_lawful ((h.setReg16 _ _).setFlags _ _ _ _) _

theorem rotA_lawful (op : RotOp) : Lawful s (Quiet s) (rotA op cost t) :=
  (checked_lawful h _ _).andThen fun _ _ => (carryIn_lawful h _).andThen fun _ _ =>
    charge_lawful ((h.setReg8 _ _).setFlags _ _ _ _) _

theorem rot8_lawful (op : RotOp) (src : Src8) (tgt : Tgt8) : Lawful s (Quiet s) (rot8 op src tgt cost t) :=
  (resolveSource8_lawful h src).andThen fun ⟨_, _⟩ h1 => (resolveTarget8_lawful h1 tgt).andThen fun _ _ =>
    (carryIn_lawful h1 _).andThen fun _ _ => (writeHandle8_lawful h1 _ _).andThen fun _ h2 =>
      charge_lawful (h2.setFlags _ _ _ _) _

theorem bitTest_lawful (b : Fin 8) (src : Src8) : Lawful s (Quiet s) (bitTest b src cost t) :=
  (resolveSource8_lawful h src).andThen fun ⟨_, _⟩ h1 => charge_lawful (h1.setFlags _ _ _ _) _

theorem bitReset_lawful (b : Fin 8) (src : Src8) (tgt : Tgt8) : Lawful s (Quiet s) (bitReset b src tgt cost t) :=
  (resolveSource8_lawful h src).andThen fun ⟨_, _⟩ h1 => (resolveTarget8_lawful h1 tgt).andThen fun _ _ =>
    (writeHandle8_lawful h1 _ _).andThen fun _ h2 => charge_lawful h2 _

theorem bitSet_lawful (b : Fin 8) (src : Src8) (tgt : Tgt8) : Lawful s (Quiet s) (bitSet b src tgt cost t) :=
  (resolveSource8_lawful h src).andThen fun ⟨_, _⟩ h1 => (resolveTarget8_lawful h1 tgt).andThen fun _ _ =>
    (writeHandle8_lawful h1 _ _).andThen fun _ h2 => charge_lawful h2 _

theorem jump_lawful (src : Src16) : Lawful s (Quiet s) (jump src cost t) :=
  (resolveSource16_lawful h src).andThen fun _ _ => charge_lawful (h.setPc _) _

theorem jumpRel_lawful (e : Byte) : Lawful s (Quiet s) (jumpRel e cost t) := charge_lawful (h.setPc _) _

theorem call_lawful (n : Word) : Lawful s (Quiet s) (call n cost t) :=
  (push16_lawful h _).andThen fun _ h1 => charge_lawful (h1.setPc _) _

theorem ret_lawful : Lawful s (Quiet s) (ret cost t) :=
  (returnToCaller_lawful h).andThen fun _ h1 => charge_lawful h1 _

/-- A conditional rule is lawful when both of its branches are. -/
theorem cond_lawful {cc : Cond} {x y : Result State} (hx : Lawful s (Quiet s) x) (hy : Lawful s (Quiet s) y) :
    Lawful s (Quiet s) ((condHolds cc t).andThen fun b => if b then x else y) :=
  (condHolds_lawful h cc).andThen fun b _ => by cases b <;> assumption

theorem jumpIf_lawful (cc : Cond) (n : Word) : Lawful s (Quiet s) (jumpIf cc n c d t) :=
  cond_lawful h (charge_lawful (h.setPc n) c) (charge_lawful h d)

theorem jumpRelIf_lawful (cc : Cond) (e : Byte) : Lawful s (Quiet s) (jumpRelIf cc e c d t) :=
  cond_lawful h (jumpRel_lawful h e) (charge_lawful h d)

theorem callIf_lawful (cc : Cond) (n : Word) : Lawful s (Quiet s) (callIf cc n c d t) :=
  cond_lawful h (call_lawful h n) (charge_lawful h d)

theorem retIf_lawful (cc : Cond) : Lawful s (Quiet s) (retIf cc c d t) :=
  cond_lawful h (ret_lawful h) (charge_lawful h d)

theorem retInterrupt_lawful : Lawful s (Quiet s) (retInterrupt cost t) :=
  (returnToCaller_lawful h).andThen fun _ h1 => charge_lawful (h1.control _ _ _) _

theorem restart_lawful (y : Fin 8) : Lawful s (Quiet s) (restart y cost t) :=
  (push16_lawful h _).andThen fun _ h1 => charge_lawful (h1.setPc _) _

theorem halt_lawful : Lawful s (Quiet s) (halt cost t) := by
  unfold halt
  split
  · exact ⟨_, rfl, nofun⟩
  · exact charge_lawful (h.control _ _ _) _

theorem disableInterrupts_lawful : Lawful s (Quiet s) (disableInterrupts cost t) := charge_lawful (h.control _ _ _) _

theorem enableInterrupts_lawful : Lawful s (Quiet s) (enableInterrupts cost t) := charge_lawful (h.control _ _ _) _

end

theorem stop_lawful (t : State) : Lawful s (Quiet s) (stop t) := ⟨_, rfl, nofun⟩

theorem decodeFailure_lawful (op : Byte) (t : State) : Lawful s (Quiet s) (decodeFailure op t) := by
  refine ⟨fun e => ?_, fun _ _ e => ?_⟩
  · cases e
  · cases e

/-- Every instruction is lawful. -/
theorem exec_lawful {i : Instr} (hwf : i.wf = true) (h : Quiet s t) : Lawful s (Quiet s) (exec i t) := by
  induction i using instr_forms with
  | h_ldRegReg dst r => rw [exec_ldRegReg]; exact load8_lawful h _ _
  | h_ldRegN8 dst n8 => rw [exec_ldRegN8]; exact load8_lawful h _ _
  | h_ldRegMem dst => rw [exec_ldRegMem]; exact load8_lawful h _ _
  | h_ldMemReg r => rw [exec_ldMemReg]; exact load8_lawful h _ _
  | h_aluReg op r => rw [exec_aluReg]; exact alu8_lawful h _ _
  | h_aluMem op => rw [exec_aluMem]; exact alu8_lawful h _ _
  | h_aluN8 op n8 => rw [exec_aluN8]; exact alu8_lawful h _ _
  | h_incReg dst => rw [exec_incReg]; exact unary8_lawful h _ _ _
  | h_decReg dst => rw [exec_decReg]; exact unary8_lawful h _ _ _
  | h_ldPairN16 p n16 => rw [exec_ldPairN16]; exact load16_lawful h _ _
  | h_addHLPair p => rw [exec_addHLPair]; exact addHL_lawful h _
  | h_incPair p => rw [exec_incPair]; exact add16To_lawful h _ _
  | h_decPair p => rw [exec_decPair]; exact add16To_lawful h _ _
  | h_pushPair q => rw [exec_pushPair]; exact push_lawful h _
  | h_popPair q => rw [exec_popPair]; exact pop_lawful h _
  | h_jpIf cc n16 => rw [exec_jpIf]; exact jumpIf_lawful h _ _
  | h_jrIf cc n8 => rw [exec_jrIf]; exact jumpRelIf_lawful h _ _
  | h_callCond cc n16 => rw [exec_callCond]; exact callIf_lawful h _ _
  | h_retCond cc => rw [exec_retCond]; exact retIf_lawful h _
  | h_rstTo b => rw [exec_rstTo]; exact restart_lawful h _
  | h_rotReg ro r => rw [exec_rotReg]; exact rot8_lawful h _ _ _
  | h_rotMem ro => rw [exec_rotMem]; exact rot8_lawful h _ _ _
  | h_bitReg b r => rw [exec_bitReg]; exact bitTest_lawful h _ _
  | h_bitMem b => rw [exec_bitMem]; exact bitTest_lawful h _ _
  | h_resReg b r => rw [exec_resReg]; exact bitReset_lawful h _ _ _
  | h_resMem b => rw [exec_resMem]; exact bitReset_lawful h _ _ _
  | h_setReg b r => rw [exec_setReg]; exact bitSet_lawful h _ _ _
  | h_setMem b => rw [exec_setMem]; exact bitSet_lawful h _ _ _
  | h_nop => exact charge_lawful h _
  | h_ldMemBCA | h_ldAMemBC | h_ldMemDEA | h_ldAMemDE | h_ldMemCA | h_ldAMemC => exact load8_lawful h _ _
  | h_ldMemHLN8 n => rw [exec_ldMemHLN8]; exact load8_lawful h _ _
  | h_ldhMemA8A n | h_ldMemA16A n | h_ldhAMemA8 n | h_ldAMemA16 n => exact load8_lawful h _ _
  | h_ldMemHLIncA | h_ldAMemHLInc | h_ldMemHLDecA | h_ldAMemHLDec => exact load8Step_lawful h _ _ _
  | h_rlca | h_rrca | h_rla | h_rra => exact rotA_lawful h _
  | h_ldMemA16SP n => exact load16_lawful h _ _
  | h_ldSPHL => exact load16_lawful h _ _
  | h_stop => exact stop_lawful t
  | h_jrE8 e => exact jumpRel_lawful h e
  | h_daa => exact decimalAdjust_lawful h
  | h_cpl => exact complementA_lawful h
  | h_incMemHL | h_decMemHL => exact unary8_lawful h _ _ _
  | h_scf => exact setCarry_lawful h
  | h_ccf => exact complementCarry_lawful h
  | h_halt => exact halt_lawful h
  | h_jpA16 n => rw [exec_jpA16]; exact jump_lawful h _
  | h_jpHL => exact jump_lawful h _
  | h_ret => exact ret_lawful h
  | h_prefixCB op2 => cases hwf
  | h_callA16 n => exact call_lawful h n
  | h_unassigned opcode => exact decodeFailure_lawful opcode t
  | h_reti => exact retInterrupt_lawful h
  | h_addSPE8 e => exact addSP_lawful h e
  | h_di => exact disableInterrupts_lawful h
  | h_ldHLSPE8 e => exact loadHLSP_lawful h e
  | h_ei => exact enableInterrupts_lawful h

/-! ### The engine -/

theorem fetchRest_lawful (h : Quiet s t) (op : Byte) (e : Entry) :
    Lawful s (fun p => Quiet s p.2) (fetchRest op t e) := by
  have hb (ns : List RegName) : Lawful s (Quiet s) (checkBefore ns t) :=
    (checked_lawful h ns t).imp fun u hu _ => (checkBefore_next.1 hu).2 ▸ h
  cases e with
  | op i => exact h
  | miss => exact h
  | opPad i => exact h
  | extend => exact (fetch8_lawful h).andThen fun ⟨_, _⟩ h1 => h1
  | op8 before f => exact (hb before).andThen fun _ h1 => (fetch8_lawful h1).andThen fun ⟨_, _⟩ h2 => h2
  | op16 before f => exact (hb before).andThen fun _ h1 => (fetch16_lawful h1).andThen fun ⟨_, _⟩ h2 => h2

/-- A fetch is lawful, and gives a well-formed instruction. -/
theorem fetchInstr_lawful (h : Quiet s t) :
    Lawful s (fun p : Instr × State => p.1.wf = true ∧ Quiet s p.2) (fetchInstr t) := by
  have hl : Lawful s (fun p => Quiet s p.2) (fetchInstr t) := by
    rw [fetchInstr_eq]
    exact (fetch8_lawful h).andThen fun ⟨_, _⟩ h1 => fetchRest_lawful h1 _ _
  exact hl.imp fun p hp h1 => ⟨(fetchInstr_updates hp).1, h1⟩

theorem executeInstruction_lawful (h : Quiet s t) : Lawful s (fun _ => True) (executeInstruction t) :=
  (fetchInstr_lawful h).andThen fun ⟨_, _⟩ ⟨hwf, h1⟩ => (exec_lawful hwf h1).andThen fun _ _ => trivial

theorem interruptEntry_lawful (h : Quiet s t) (src : IntSource) :
    Lawful s (fun _ => True) (interruptEntry src t) := by
  refine (checked_lawful h _ _).andThen fun sp _ => ?_
  split
  · exact ⟨_, rfl, nofun⟩
  · have ha : Quiet s (({ t with ime := false, imeSched := false } : State).acknowledge (intVector src)) :=
      (h.control false false t.halted).trans ((Updates.refl (p := .all)).acknowledge _).quiet
    exact (push16_lawful ha _).andThen fun _ _ => trivial

theorem serviceOrExecute_lawful (h : Quiet s t) : Lawful s (fun _ => True) (serviceOrExecute t) := by
  unfold serviceOrExecute
  split
  · split
    · exact interruptEntry_lawful h _
    · exact executeInstruction_lawful h
  · exact executeInstruction_lawful h

theorem haltedAtFailure_lawful {x : Result State} (h : Lawful s (fun _ => True) x) (b : Bool) :
    Lawful s (fun _ => True) (haltedAtFailure b x) := by
  rcases x with v | (⟨op, a, u⟩ | ⟨r, u⟩) | r
  · exact h
  · obtain ⟨hu, -⟩ := h
    rw [haltedAtFailure_decodeFailure]
    refine ⟨hu, fun _ _ e => ?_⟩
    cases e
  · exact h
  · exact h

theorem boundaryStep_lawful (s : State) : Lawful s (fun _ => True) (boundaryStep s) := by
  unfold boundaryStep
  split
  · split
    · trivial
    · exact haltedAtFailure_lawful (serviceOrExecute_lawful ((Quiet.refl s).control s.ime s.imeSched false)) _
  · exact serviceOrExecute_lawful (.refl s)

/-- Every step is lawful. -/
theorem step_lawful (s : State) : Lawful s (fun _ => True) (step s) := by
  by_cases hs : s.status = .running
  · cases hk : s.remaining with
    | succ k => rw [step_owing hs hk]; trivial
    | zero => rw [step_boundary hs hk]; exact (boundaryStep_lawful s).andThen fun _ _ => trivial
  · rw [step_ended hs]
    trivial

/-! ### The statements -/

/-- Settles O51. -/
theorem endedSessionsStay : Obligations.EndedSessionsStay := by
  refine ⟨fun s => step_ended, fun s f hf => ?_, fun s r hr => ?_⟩
  · exact (hf ▸ step_lawful s : Lawful s _ (Host.Outcome.fault f)).1
  · exact (hr ▸ step_lawful s : Lawful s _ (Host.Outcome.refused r))

/-- Settles O60: updates leave no slot unwritten that was written, and a lawful step faults at an unwritten slot
only. -/
theorem writtenStaysWritten : Obligations.WrittenStaysWritten := by
  refine ⟨fun s t n h hn ht => hn (unwritten_step h n ht), fun s r u hw hf => ?_⟩
  have hr : r ∈ s.unwritten := (hf ▸ step_lawful s : Lawful s _ (Host.Outcome.fault _)).2 r u rfl
  rw [hw] at hr
  exact absurd hr List.not_mem_nil

end Sys2Proof.Machine
end

section
/-! The DMA window (R228, R1204, R1205): what is refused in it, and what a refused access leaves. Every instruction that
touches the bus opens with one access, or with the two of a word, a push or a pop. -/
namespace Sys2Proof.Machine

open Sys2Proof

variable {s t : State} {a b : Word} {i : Instr} {src : Src8} {tgt : Tgt8} {cost : Nat}

/-! ### Blocked accesses -/

theorem busBlocked_iff : s.busBlocked a = true ↔ 0 < s.dmaWindow ∧ region a ≠ .hram := by
  simp [State.busBlocked]

theorem admits_hram (h : region a = .hram) : s.Admits a := by
  simp [State.Admits, State.busBlocked, h]

/-- After a write the window is open where it was, or where the write opened it. -/
theorem busBlocked_afterWrite_of_open (v : Byte) (h : a = 0xFF46#16 ∨ 0 < s.dmaWindow) (hb : region b ≠ .hram) :
    (s.afterWrite a v).busBlocked b = true := by
  rw [busBlocked_iff, afterWrite_dmaWindow]
  refine ⟨?_, hb⟩
  split
  · decide
  · rename_i hne
    exact h.resolve_left hne

theorem fetch8_blocked (h : s.busBlocked s.pc = true) :
    fetch8 s = .refused (.dmaBusConflict (s.refused .dmaBusConflict)) := by
  rw [fetch8, busRead_blocked h, Result.refused_andThen]

theorem pushByte_blocked (hsp : s.Holds [.sp]) (h : s.busBlocked (s.sp - 1) = true) (v : Byte) : pushByte v s =
    .refused (.dmaBusConflict ((s.setReg16 .sp (s.sp - 1)).refused .dmaBusConflict)) := by
  rw [pushByte, readReg16_of_holds (rr := .sp) hsp, Result.next_andThen]
  exact busWrite_blocked (by simpa using h)

/-- The first byte of a push is refused: SP has moved down by one. -/
theorem push16_first_blocked (hsp : s.Holds [.sp]) (h : s.busBlocked (s.sp - 1) = true) (v : Word) : push16 v s =
    .refused (.dmaBusConflict ((s.setReg16 .sp (s.sp - 1)).refused .dmaBusConflict)) := by
  rw [push16, pushByte_blocked hsp h, Result.refused_andThen]

/-- The second byte of a push is refused: the first is written, and SP has moved down by two. -/
theorem push16_second_blocked (hsp : s.Holds [.sp]) (ha : s.Admits (s.sp - 1))
    (ho : s.sp - 1 = 0xFF46#16 ∨ 0 < s.dmaWindow) (hb : region (s.sp - 2) ≠ .hram) (v : Word) : push16 v s =
      .refused (.dmaBusConflict ((((s.setReg16 .sp (s.sp - 1)).afterWrite (s.sp - 1) (hiByte v)).setReg16 .sp
        (s.sp - 2)).refused .dmaBusConflict)) := by
  have e : s.sp - 1 - 1 = s.sp - 2 := by bv_omega
  have hblocked : ((s.setReg16 .sp (s.sp - 1)).afterWrite (s.sp - 1) (hiByte v)).busBlocked (s.sp - 2) = true :=
    busBlocked_afterWrite_of_open _ (by simpa using ho) hb
  have hsp1 : ((s.setReg16 .sp (s.sp - 1)).afterWrite (s.sp - 1) (hiByte v)).sp = s.sp - 1 := by simp
  rw [push16, pushByte_next.2 ⟨hsp, ha, rfl⟩, Result.next_andThen, pushByte_blocked, hsp1, e]
  · rw [holds_afterWrite]
    simp [State.Holds]
  · rw [hsp1, e]
    exact hblocked

theorem popByte_blocked (hsp : s.Holds [.sp]) (h : s.busBlocked s.sp = true) :
    popByte s = .refused (.dmaBusConflict (s.refused .dmaBusConflict)) := by
  rw [popByte, readReg16_of_holds (rr := .sp) hsp, Result.next_andThen, State.reg16_sp, busRead_blocked h]
  rfl

theorem pop16_first_blocked (hsp : s.Holds [.sp]) (h : s.busBlocked s.sp = true) :
    pop16 s = .refused (.dmaBusConflict (s.refused .dmaBusConflict)) := by
  rw [pop16, popByte_blocked hsp h, Result.refused_andThen]

theorem pop16_second_blocked (hsp : s.Holds [.sp]) (ha : s.Admits s.sp) (hb : s.busBlocked (s.sp + 1) = true) :
    ∃ u : State, pop16 s = .refused (.dmaBusConflict (u.refused .dmaBusConflict)) := by
  refine ⟨(s.afterRead s.sp).setReg16 .sp (s.sp + 1), ?_⟩
  rw [pop16, popByte_next.2 ⟨hsp, ha, rfl⟩, Result.next_andThen]
  dsimp only
  rw [popByte_blocked, Result.refused_andThen]
  · simp [State.Holds]
  · simpa using hb

/-! ### How an instruction opens -/

/-- How the rule of an instruction opens on the bus: the address of its first access, the operation that makes it, and
the second access that the operation makes. -/
inductive Opening (i : Instr) (s : State) : Word → Prop where
  | read {a : Word} (f : Byte × State → Result State) (h : exec i s = (busRead a s).andThen f)
      (hpush : pushes i s.flags = false) (h2 : secondAccess i s = none) : Opening i s a
  | write {a : Word} (v : Byte) (f : State → Result State) (h : exec i s = (busWrite a v s).andThen f)
      (hpush : pushes i s.flags = false) (h2 : secondAccess i s = none) : Opening i s a
  | word {a : Word} (v : Word) (f : State → Result State) (h : exec i s = (busWrite16 a v s).andThen f)
      (hpush : pushes i s.flags = false) (h2 : secondAccess i s = some (a + 1)) : Opening i s a
  | push (v : Word) (f : State → Result State) (h : exec i s = (push16 v s).andThen f)
      (hpush : pushes i s.flags = true) (h2 : secondAccess i s = some (s.sp - 2)) : Opening i s (s.sp - 1)
  | pop (f : Word × State → Result State) (h : exec i s = (pop16 s).andThen f)
      (hpush : pushes i s.flags = false) (hpop : pops i s.flags = true) (h2 : secondAccess i s = some (s.sp + 1)) :
      Opening i s s.sp

/-- A source in memory is read first. -/
theorem resolveSource8_of_addr (hw : s.AllWritten) (ha : srcAddr src s = some a) :
    resolveSource8 src s = busRead a s := by
  have hreg (rr : Reg16) : readReg16 rr s = .next (s.reg16 rr) := readReg16_of_holds (holds_of_allWritten hw _)
  have hc : readReg8 .c s = .next s.c := checked_of_holds (holds_of_allWritten hw _) _
  cases src with
  | imm8 n => cases ha
  | reg r => cases ha
  | ind rr => cases ha; rw [resolveSource8, hreg, Result.next_andThen]
  | indhiC => cases ha; rw [resolveSource8, hc, Result.next_andThen]
  | ind16 a => cases ha; rfl
  | indhi8 a => cases ha; rfl

theorem opening_source {f : Byte × State → Result State} (ha : firstAccess i s = some a) (hw : s.AllWritten)
    (h : exec i s = (resolveSource8 src s).andThen f)
    (hi : firstAccess i s = srcAddr src s ∧ pushes i s.flags = false ∧ secondAccess i s = none) : Opening i s a := by
  obtain ⟨h1, hpush, h2⟩ := hi
  rw [h1] at ha
  exact .read f (by rw [h, resolveSource8_of_addr hw ha]) hpush h2

/-- Where the source is no memory, a target in memory is written first. -/
theorem opening_target {f : State → Result State} (ha : firstAccess i s = some a) (hw : s.AllWritten)
    (h : exec i s = (resolveSource8 src s).andThen fun (v, s1) => (resolveTarget8 tgt s1).andThen fun h =>
      (writeHandle8 h v s1).andThen f) (hs : srcAddr src s = none)
    (hi : firstAccess i s = tgtAddr tgt s ∧ pushes i s.flags = false ∧ secondAccess i s = none) : Opening i s a := by
  obtain ⟨h1, hpush, h2⟩ := hi
  rw [h1] at ha
  refine .write (s.srcVal src) f ?_ hpush h2
  have hsrc : resolveSource8 src s = .next (s.srcVal src, s) := by
    rw [resolveSource8_next.2 ⟨holds_of_allWritten hw _, hs ▸ admitsOpt_none s, rfl⟩, State.afterSrc, hs]
  have htgt : resolveTarget8 tgt s = .next (.addr a) := by
    rw [resolveTarget8_next.2 ⟨holds_of_allWritten hw _, rfl⟩]
    cases tgt <;> cases ha <;> rfl
  rw [h, hsrc, Result.next_andThen]
  dsimp only
  rw [htgt, Result.next_andThen, writeHandle8]

theorem opening_push {v : Word} {f : State → Result State} (ha : firstAccess i s = some a)
    (h : exec i s = (push16 v s).andThen f) (hi : firstAccess i s = some (s.sp - 1) ∧ pushes i s.flags = true ∧
      secondAccess i s = some (s.sp - 2)) : Opening i s a := by
  obtain ⟨h1, hpush, h2⟩ := hi
  rw [h1] at ha
  cases ha
  exact .push v f h hpush h2

theorem opening_pop {f : Word × State → Result State} (ha : firstAccess i s = some a)
    (h : exec i s = (pop16 s).andThen f) (hi : firstAccess i s = some s.sp ∧ pushes i s.flags = false ∧
      pops i s.flags = true ∧ secondAccess i s = some (s.sp + 1)) : Opening i s a := by
  obtain ⟨h1, hpush, hpop, h2⟩ := hi
  rw [h1] at ha
  cases ha
  exact .pop f h hpush hpop h2

theorem Result.andThen_assoc {α β γ : Type} (x : Result α) (f : α → Result β) (g : β → Result γ) :
    (x.andThen f).andThen g = x.andThen fun v => (f v).andThen g := by
  cases x <;> rfl

theorem push_eq (hw : s.AllWritten) (rr : Reg16) :
    push rr cost s = (push16 (s.reg16 rr) s).andThen fun s1 => charge cost s1 := by
  rw [push, readReg16_of_holds (holds_of_allWritten hw _), Result.next_andThen]

theorem condHolds_of_allWritten (hw : s.AllWritten) (cc : Cond) : condHolds cc s = .next (condOf cc s.flags) :=
  condHolds_next.2 ⟨holds_of_allWritten hw _, rfl⟩

theorem returnToCaller_andThen (f : State → Result State) (s : State) :
    (returnToCaller s).andThen f = (pop16 s).andThen fun p => f (p.2.setPc p.1) := by
  rw [returnToCaller, Result.andThen_assoc]
  rfl

theorem accesses_callCond (cc : Cond) (n : Word) (s : State) :
    firstAccess (callCond cc n) s = (if condOf cc s.flags then some (s.sp - 1) else none) ∧
      secondAccess (callCond cc n) s = if condOf cc s.flags then some (s.sp - 2) else none := by
  refine ⟨?_, by cases cc <;> rfl⟩
  rw [firstAccess, tableRow_callCond, pushes_callCond, pops_callCond]
  cases condOf cc s.flags <;> rfl

theorem accesses_retCond (cc : Cond) (s : State) :
    firstAccess (retCond cc) s = (if condOf cc s.flags then some s.sp else none) ∧
      secondAccess (retCond cc) s = if condOf cc s.flags then some (s.sp + 1) else none := by
  refine ⟨?_, by cases cc <;> rfl⟩
  rw [firstAccess, tableRow_retCond, pushes_retCond, pops_retCond]
  cases condOf cc s.flags <;> rfl

/-- Every instruction with a first access opens with it. -/
theorem exec_opening (hwf : i.wf = true) (hw : s.AllWritten) (ha : firstAccess i s = some a) : Opening i s a := by
  induction i using instr_forms with
  | h_ldRegReg dst r => cases dst <;> cases r <;> cases ha
  | h_ldRegN8 dst n8 => cases dst <;> cases ha
  | h_ldRegMem dst => exact opening_source ha hw (exec_ldRegMem dst s) (by cases dst <;> exact ⟨rfl, rfl, rfl⟩)
  | h_ldMemReg r => exact opening_target ha hw (exec_ldMemReg r s) rfl (by cases r <;> exact ⟨rfl, rfl, rfl⟩)
  | h_aluReg op r => cases op <;> cases r <;> cases ha
  | h_aluMem op => exact opening_source ha hw (exec_aluMem op s) (by cases op <;> exact ⟨rfl, rfl, rfl⟩)
  | h_aluN8 op n8 => cases op <;> cases ha
  | h_incReg dst => cases dst <;> cases ha
  | h_decReg dst => cases dst <;> cases ha
  | h_ldPairN16 p n16 => cases p <;> cases ha
  | h_addHLPair p => cases p <;> cases ha
  | h_incPair p => cases p <;> cases ha
  | h_decPair p => cases p <;> cases ha
  | h_pushPair q =>
    exact opening_push ha ((exec_pushPair q s).trans (push_eq hw _)) (by cases q <;> exact ⟨rfl, rfl, rfl⟩)
  | h_popPair q => exact opening_pop ha (exec_popPair q s) (by cases q <;> exact ⟨rfl, rfl, rfl, rfl⟩)
  | h_jpIf cc n16 => cases cc <;> cases ha
  | h_jrIf cc n8 => cases cc <;> cases ha
  | h_callCond cc n16 =>
    obtain ⟨h1, h2⟩ := accesses_callCond cc n16 s
    by_cases hcc : condOf cc s.flags = true
    · rw [if_pos hcc] at h1 h2
      refine opening_push ha (v := s.pc) (f := fun s1 => charge 6 (s1.setPc n16)) ?_ ?_
      · rw [exec_callCond, callIf, condHolds_of_allWritten hw, Result.next_andThen, if_pos hcc, call]
      · exact ⟨h1, (pushes_callCond cc n16 _).trans hcc, h2⟩
    · rw [h1, if_neg hcc] at ha
      cases ha
  | h_retCond cc =>
    obtain ⟨h1, h2⟩ := accesses_retCond cc s
    by_cases hcc : condOf cc s.flags = true
    · rw [if_pos hcc] at h1 h2
      refine opening_pop ha (f := fun p => charge 5 (p.2.setPc p.1)) ?_ ?_
      · rw [exec_retCond, retIf, condHolds_of_allWritten hw, Result.next_andThen, if_pos hcc, ret,
          returnToCaller_andThen]
      · exact ⟨h1, pushes_retCond cc _, (pops_retCond cc _).trans hcc, h2⟩
    · rw [h1, if_neg hcc] at ha
      cases ha
  | h_rstTo b => exact opening_push ha (exec_rstTo b s) (by fin_cases b <;> exact ⟨rfl, rfl, rfl⟩)
  | h_rotReg ro r => cases ro <;> cases r <;> cases ha
  | h_rotMem ro => exact opening_source ha hw (exec_rotMem ro s) (by cases ro <;> exact ⟨rfl, rfl, rfl⟩)
  | h_bitReg b r => fin_cases b <;> cases r <;> cases ha
  | h_bitMem b => exact opening_source ha hw (exec_bitMem b s) (by fin_cases b <;> exact ⟨rfl, rfl, rfl⟩)
  | h_resReg b r => fin_cases b <;> cases r <;> cases ha
  | h_resMem b => exact opening_source ha hw (exec_resMem b s) (by fin_cases b <;> exact ⟨rfl, rfl, rfl⟩)
  | h_setReg b r => fin_cases b <;> cases r <;> cases ha
  | h_setMem b => exact opening_source ha hw (exec_setMem b s) (by fin_cases b <;> exact ⟨rfl, rfl, rfl⟩)
  | h_ldMemBCA => exact opening_target ha hw (exec_ldMemBCA s) rfl ⟨rfl, rfl, rfl⟩
  | h_ldMemDEA => exact opening_target ha hw (exec_ldMemDEA s) rfl ⟨rfl, rfl, rfl⟩
  | h_ldMemCA => exact opening_target ha hw (exec_ldMemCA s) rfl ⟨rfl, rfl, rfl⟩
  | h_ldMemHLIncA => exact opening_target ha hw (exec_ldMemHLIncA s) rfl ⟨rfl, rfl, rfl⟩
  | h_ldMemHLDecA => exact opening_target ha hw (exec_ldMemHLDecA s) rfl ⟨rfl, rfl, rfl⟩
  | h_ldMemHLN8 n => exact opening_target ha hw (exec_ldMemHLN8 n s) rfl ⟨rfl, rfl, rfl⟩
  | h_ldhMemA8A n => exact opening_target ha hw (exec_ldhMemA8A n s) rfl ⟨rfl, rfl, rfl⟩
  | h_ldMemA16A n =>
    exact opening_target ha hw (exec_ldMemA16A n s) rfl ⟨congrArg some (wordOf_bytes n), rfl, rfl⟩
  | h_ldAMemBC => exact opening_source ha hw (exec_ldAMemBC s) ⟨rfl, rfl, rfl⟩
  | h_ldAMemDE => exact opening_source ha hw (exec_ldAMemDE s) ⟨rfl, rfl, rfl⟩
  | h_ldAMemC => exact opening_source ha hw (exec_ldAMemC s) ⟨rfl, rfl, rfl⟩
  | h_ldAMemHLInc => exact opening_source ha hw (exec_ldAMemHLInc s) ⟨rfl, rfl, rfl⟩
  | h_ldAMemHLDec => exact opening_source ha hw (exec_ldAMemHLDec s) ⟨rfl, rfl, rfl⟩
  | h_incMemHL => exact opening_source ha hw (exec_incMemHL s) ⟨rfl, rfl, rfl⟩
  | h_decMemHL => exact opening_source ha hw (exec_decMemHL s) ⟨rfl, rfl, rfl⟩
  | h_ldhAMemA8 n => exact opening_source ha hw (exec_ldhAMemA8 n s) ⟨rfl, rfl, rfl⟩
  | h_ldAMemA16 n => exact opening_source ha hw (exec_ldAMemA16 n s) ⟨congrArg some (wordOf_bytes n), rfl, rfl⟩
  | h_ldMemA16SP n =>
    have hn : firstAccess (.ldMemA16SP n) s = some n := congrArg some (wordOf_bytes n)
    rw [hn] at ha
    cases ha
    refine .word s.sp (charge 5) ?_ rfl rfl
    rw [exec_ldMemA16SP, load16, resolveSource16, readReg16_of_holds (rr := .sp) (holds_of_allWritten hw _)]
    rfl
  | h_ret => exact opening_pop ha ((exec_ret s).trans (returnToCaller_andThen _ s)) ⟨rfl, rfl, rfl, rfl⟩
  | h_reti => exact opening_pop ha ((exec_reti s).trans (returnToCaller_andThen _ s)) ⟨rfl, rfl, rfl, rfl⟩
  | h_callA16 n => exact opening_push ha (exec_callA16 n s) ⟨rfl, rfl, rfl⟩
  | h_prefixCB op2 => cases hwf
  | _ => cases ha

/-! ### The statements -/

/-- A first access that is refused: a push has moved SP by then. -/
theorem exec_first_blocked (hwf : i.wf = true) (hw : s.AllWritten) (ha : firstAccess i s = some a)
    (hb : s.busBlocked a = true) : exec i s = .refused (.dmaBusConflict
      ((if pushes i s.flags then s.setReg16 .sp (s.sp - 1) else s).refused .dmaBusConflict)) := by
  have hsp : s.Holds [.sp] := holds_of_allWritten hw _
  cases exec_opening hwf hw ha with
  | read f h hpush _ => rw [h, busRead_blocked hb, hpush]; rfl
  | write v f h hpush _ => rw [h, busWrite_blocked hb, hpush]; rfl
  | word v f h hpush _ => rw [h, busWrite16, busWrite_blocked hb, hpush]; rfl
  | push v f h hpush _ => rw [h, push16_first_blocked hsp hb, hpush]; rfl
  | pop f h hpush _ _ => rw [h, pop16_first_blocked hsp hb, hpush]; rfl

/-- A second access that is refused, in a window that is open or that the first access opens. -/
theorem exec_second_blocked (hwf : i.wf = true) (hw : s.AllWritten) (ha : firstAccess i s = some a)
    (hb : secondAccess i s = some b) (hadm : s.Admits a) (hr : region b ≠ .hram)
    (ho : 0 < s.dmaWindow ∨ (a = 0xFF46#16 ∧ pops i s.flags = false)) :
    ∃ u : State, exec i s = .refused (.dmaBusConflict (u.refused .dmaBusConflict)) := by
  have hsp : s.Holds [.sp] := holds_of_allWritten hw _
  have hopen : a = 0xFF46#16 ∨ 0 < s.dmaWindow := ho.symm.imp_left (·.1)
  cases exec_opening hwf hw ha with
  | read f h _ h2 => rw [h2] at hb; cases hb
  | write v f h _ h2 => rw [h2] at hb; cases hb
  | word v f h _ h2 =>
    rw [h2] at hb
    cases hb
    refine ⟨s.afterWrite a (loByte v), ?_⟩
    rw [h, busWrite16, busWrite_next.2 ⟨hadm, rfl⟩, Result.next_andThen,
      busWrite_blocked (busBlocked_afterWrite_of_open _ hopen hr), Result.refused_andThen]
  | push v f h _ h2 =>
    rw [h2] at hb
    cases hb
    exact ⟨_, by rw [h, push16_second_blocked hsp hadm hopen hr, Result.refused_andThen]⟩
  | pop f h _ hpop h2 =>
    rw [h2] at hb
    cases hb
    have hd : 0 < s.dmaWindow := ho.resolve_right fun ⟨_, hn⟩ => by rw [hpop] at hn; cases hn
    obtain ⟨u, hu⟩ := pop16_second_blocked hsp hadm (busBlocked_iff.2 ⟨hd, hr⟩)
    exact ⟨u, by rw [h, hu, Result.refused_andThen]⟩

theorem executeInstruction_blocked (h : s.busBlocked s.pc = true) :
    executeInstruction s = .refused (.dmaBusConflict (s.refused .dmaBusConflict)) := by
  rw [executeInstruction, fetchInstr_eq, fetch8_blocked h]
  rfl

/-- Settles O39: the accesses by the bus rules, an instruction's by how it opens. -/
theorem dmaWindowRefuses : Obligations.DmaWindowRefuses := by
  refine ⟨fun s a v hd hr => ?_, fun i s a hwf hw ha hd hr => ?_, fun i s a b hwf hw ha hb hadm hr ho => ?_,
    fun s a v hr => ⟨busRead_next.2 ⟨admits_hram hr, rfl⟩, busWrite_next.2 ⟨admits_hram hr, rfl⟩⟩⟩
  · have hb : s.busBlocked a = true := busBlocked_iff.2 ⟨hd, hr⟩
    refine ⟨busRead_blocked hb, busWrite_blocked hb, fun e => ?_, fun e hrun => ?_⟩
    · subst e
      exact fetch8_blocked hb
    · subst e
      rw [step_runsInstruction hrun, executeInstruction_blocked hb]
      rfl
  · exact exec_first_blocked hwf hw ha (busBlocked_iff.2 ⟨hd, hr⟩)
  · obtain ⟨u, hu⟩ := exec_second_blocked hwf hw ha hb hadm hr ho
    exact ⟨_, hu, rfl⟩

end Sys2Proof.Machine
end

section
/-! Reads of unwritten slots (R141, R1202) and interrupt entry (R1211, R1212, R1231). -/
namespace Sys2Proof.Machine

open Sys2Proof

variable {s : State} {src : IntSource}

/-! ### Unwritten slots -/

/-- A checked read reports the first unwritten slot of its list. -/
theorem checked_fault {α : Type} {names pre post : List RegName} {x : RegName} (hn : names = pre ++ x :: post)
    (hpre : s.Holds pre) (hx : x ∈ s.unwritten) (v : α) :
    checked names v s = .fault (.uninitialisedRead x (s.faulted (.uninitialisedRead x))) := by
  have hnone : pre.find? (fun n => s.unwritten.contains n) = none :=
    List.find?_eq_none.2 fun n hm => by simpa using hpre n hm
  have hfind : names.find? (fun n => s.unwritten.contains n) = some x := by
    rw [hn, List.find?_append, hnone, Option.none_or, List.find?_cons_of_pos (by simpa using hx)]
  simp only [checked, hfind]

theorem checked_singleton_fault {α : Type} {x : RegName} (hx : x ∈ s.unwritten) (v : α) :
    checked [x] v s = .fault (.uninitialisedRead x (s.faulted (.uninitialisedRead x))) :=
  checked_fault (pre := []) (post := []) rfl (holds_nil s) hx v

theorem condHolds_fault {cc : Cond} {x : RegName} (h : condNames cc = [x]) (hx : x ∈ s.unwritten) :
    condHolds cc s = .fault (.uninitialisedRead x (s.faulted (.uninitialisedRead x))) := by
  cases cc with
  | nz => cases h; rw [condHolds, readZ, checked_singleton_fault hx, Result.fault_andThen]
  | z => cases h; rw [condHolds, readZ, checked_singleton_fault hx]
  | nc => cases h; rw [condHolds, readC, checked_singleton_fault hx, Result.fault_andThen]
  | c => cases h; rw [condHolds, readC, checked_singleton_fault hx]

/-- Settles O34: each of the instructions reads the slot before anything else of its rule. -/
theorem unwrittenReadFaults : Obligations.UnwrittenReadFaults := by
  intro s dst src rr cc n pre post x hx
  refine ⟨fun h => ?_, fun hn hpre => checked_fault hn hpre hx _, fun h q => ?_, fun h => ?_⟩
  · subst h
    have hread : readReg8 src s = .fault _ := checked_singleton_fault hx _
    refine ⟨hread, ?_, ?_, fun op => ?_⟩
    · rw [exec_ldRegReg, load8, resolveSource8, hread]
      rfl
    · rw [exec_incReg, unary8, resolveSource8, hread]
      rfl
    · rw [exec_aluReg, alu8, resolveSource8, hread]
      rfl
  · subst h
    have hread : readReg16 .sp s = .fault _ := checked_singleton_fault hx _
    rw [exec_popPair, pop, pop16, popByte, hread]
    rfl
  · rw [exec_jpIf, jumpIf, condHolds_fault h hx]
    rfl

/-! ### Interrupt entry -/

/-- A step whose boundary enters an interrupt runs the entry on the awake state. -/
theorem step_interrupt {x : Result State} (hs : s.status = .running) (h0 : s.remaining = 0) (hime : s.ime = true)
    (hirq : s.irq = some src) (hx : interruptEntry src { s with halted := false } = x)
    (hx' : ∀ b, haltedAtFailure b x = x) :
    step s = x.andThen fun t => .next (advance t) := by
  have hserve : serviceOrExecute { s with halted := false } = x :=
    (serviceOrExecute_service (s := { s with halted := false }) hime hirq).trans hx
  rw [step_boundary hs h0]
  cases hh : s.halted with
  | true =>
    rw [boundaryStep_wake hh hirq, hserve, hx']
  | false =>
    have he : { s with halted := false } = s := by cases s; cases hh; rfl
    rw [boundaryStep_awake hh, ← hserve, he]

/-- With SP at 0x0000 or 0x0001 the entry is refused before anything changes. -/
theorem interruptEntry_low (hsp : s.Holds [.sp]) (h : s.sp = 0x0000#16 ∨ s.sp = 0x0001#16) :
    interruptEntry src s = .refused (.dispatchPushToIE (s.refused .dispatchPushToIE)) := by
  rw [interruptEntry, readReg16_of_holds (rr := .sp) hsp, Result.next_andThen, State.reg16_sp, if_pos h]

/-- The state in which an interrupt entry pushes pc. -/
def State.taken (s : State) (src : IntSource) : State :=
  ({ s with ime := false, imeSched := false } : State).acknowledge (intVector src)

/-- Where its push is refused, the entry is. -/
theorem interruptEntry_refused {r : Refusal} (hsp : s.Holds [.sp]) (h0 : s.sp ≠ 0x0000#16) (h1 : s.sp ≠ 0x0001#16)
    (h : push16 s.pc (s.taken src) = .refused r) : interruptEntry src s = .refused r := by
  rw [State.taken] at h
  rw [interruptEntry, readReg16_of_holds (rr := .sp) hsp, Result.next_andThen, State.reg16_sp,
    if_neg (not_or.2 ⟨h0, h1⟩), h, Result.refused_andThen]

theorem interruptEntry_first_blocked (hsp : s.Holds [.sp]) (h0 : s.sp ≠ 0x0000#16) (h1 : s.sp ≠ 0x0001#16)
    (hb : s.busBlocked (s.sp - 1) = true) : interruptEntry src s =
      .refused (.dmaBusConflict (((s.taken src).setReg16 .sp (s.sp - 1)).refused .dmaBusConflict)) :=
  interruptEntry_refused hsp h0 h1 (push16_first_blocked (s := s.taken src) hsp hb _)

theorem interruptEntry_second_blocked (hsp : s.Holds [.sp]) (h0 : s.sp ≠ 0x0000#16) (h1 : s.sp ≠ 0x0001#16)
    (ha : s.Admits (s.sp - 1)) (ho : s.sp - 1 = 0xFF46#16 ∨ 0 < s.dmaWindow) (hr : region (s.sp - 2) ≠ .hram) :
    interruptEntry src s = .refused (.dmaBusConflict (((((s.taken src).setReg16 .sp (s.sp - 1)).afterWrite (s.sp - 1)
      (hiByte s.pc)).setReg16 .sp (s.sp - 2)).refused .dmaBusConflict)) :=
  interruptEntry_refused hsp h0 h1 (push16_second_blocked (s := s.taken src) hsp ha ho hr _)

/-- Settles O48: the step is the entry of the awake state, which is refused where its push is. -/
theorem interruptEntryTaken : Obligations.InterruptEntryTaken := by
  intro s src hs h0 hime hirq hsp
  refine ⟨rfl, fun hn0 hn1 hready => ?_, fun hlow => ?_, fun hn0 hn1 hd hr => ?_, fun hn0 hn1 hadm hb => ?_⟩
  · exact step_interrupt hs h0 hime hirq (interruptEntry_next.2 ⟨hready, hn0, hn1, rfl⟩) fun _ => rfl
  · exact step_interrupt hs h0 hime hirq (interruptEntry_low (s := { s with halted := false }) hsp hlow) fun _ => rfl
  · exact step_interrupt hs h0 hime hirq
      (interruptEntry_first_blocked (s := { s with halted := false }) hsp hn0 hn1 (busBlocked_iff.2 ⟨hd, hr⟩))
      fun _ => rfl
  · have hopen : s.sp - 1 = 0xFF46#16 ∨ 0 < s.dmaWindow := hb.imp (fun h => by rw [h]; rfl) And.left
    have hr : region (s.sp - 2) ≠ .hram := hb.elim (fun h => by rw [h]; decide) And.right
    exact step_interrupt hs h0 hime hirq
      (interruptEntry_second_blocked (s := { s with halted := false }) hsp hn0 hn1 hadm hopen hr) fun _ => rfl

end Sys2Proof.Machine
end
